-- ==== Sys2Proof/Word.lean ====
section
/-! DEFINITION. The fixed widths the spec names: a byte (R17), the 16-bit checksum state (R21), the
24-bit message id (R29). -/

namespace Sys2Proof

/-- R17: "A byte is 8 bits." -/
abbrev Byte := BitVec 8

/-- R21: the checksum state and the frame checksum are 16 bits. -/
abbrev Word16 := BitVec 16

/-- R13, R29: a message id is 0 to 2^24 - 1. -/
abbrev MsgId := BitVec 24

end Sys2Proof
end

