-- ==== Sys2Proof/Machine/Bytes.lean ====
section
/-! DEFINITION. Byte sequences and the notation of 00_scope.md R16 to R18: little-endian, slices, zeros, signed
readings. -/

namespace Sys2Proof.Machine

/-- R17: `le_n(v)`, the n-byte little-endian sequence of v. -/
def le : Nat → Nat → List Byte
  | 0, _ => []
  | n + 1, v => BitVec.ofNat 8 v :: le n (v / 256)

/-- R17: `unle(S)`, the sum of `S[i] * 2^(8i)`. -/
def unle : List Byte → Nat
  | [] => 0
  | b :: bs => b.toNat + 256 * unle bs

/-- R17: `S[a:b]`, elements a to b-1, empty when a >= b. -/
def slice {α : Type} (S : List α) (a b : Nat) : List α := (S.take b).drop a

/-- R17: `zeros(n)`. -/
def zeros (n : Nat) : List Byte := List.replicate n 0

/-- R18: `MemRead(S, off, n)`; it requires `off + n <= len(S)`. -/
def memRead (S : List Byte) (off n : Nat) : Nat := unle (slice S off (off + n))

/-- R18: `MemWrite(S, off, n, v)`. No operation uses it. -/
def memWrite (S : List Byte) (off n v : Nat) : List Byte := S.take off ++ le n v ++ S.drop (off + n)

/-- R16: `sint_W(v)`, the signed (two's complement, log 21) reading of a W-bit pattern. -/
def sint {w : Nat} (v : BitVec w) : Int :=
  if v.toNat < 2 ^ (w - 1) then (v.toNat : Int) else (v.toNat : Int) - (2 : Int) ^ w

/-- R16: `sext_N(v)`, the N-bit value with the same two's complement meaning. -/
def sext {w : Nat} (n : Nat) (v : BitVec w) : BitVec n := BitVec.ofInt n (sint v)

/-- R16: `zext_N(v)`, v taken as an N-bit value. -/
def zext {w : Nat} (n : Nat) (v : BitVec w) : BitVec n := BitVec.ofNat n v.toNat

end Sys2Proof.Machine
end

