-- ==== Sys2Proof/Syntax.lean ====
section
/-! DEFINITION. The values operations take (10_state.md R29 to R33, 30_encoding.md R59, R60, 41_scalar_codec.md
R78), one constructor of `Instr` for every row of spec/opcode_table.json, and the request by which the host names
an operation (R62). -/

namespace Sys2Proof

/-- R5: the wire version, 1 or 2; no other value can be formed (U2). -/
inductive Version
  | v1
  | v2
deriving DecidableEq, Repr

/-- R59: the eleven primitive kinds. The reserved kind codes 11 to 15 are no kind (X2). -/
inductive Kind
  | i8
  | u8
  | i16
  | u16
  | i32
  | u32
  | i64
  | u64
  | f32
  | f64
  | char
deriving DecidableEq, Repr

/-- R30: a slot of a layout; `alen = 0` means scalar. -/
structure Slot where
  kind : Kind
  alen : Nat
deriving DecidableEq, Repr

/-- R78: a scalar value is a bit pattern of the kind's width; the widths are 8, 16, 32 and 64 bits. -/
inductive Pattern
  | b8 (v : BitVec 8)
  | b16 (v : BitVec 16)
  | b32 (v : BitVec 32)
  | b64 (v : BitVec 64)
deriving DecidableEq, Repr

/-- R33: the value of one field, a scalar or an array of scalars. -/
inductive Value
  | scalar (p : Pattern)
  | array (ps : List Pattern)
deriving DecidableEq, Repr

/-- R29: an entry of the "declared field order", a pair (name, slot). -/
structure DeclaredField where
  name : String
  slot : Slot
deriving DecidableEq, Repr

/-- R29: a MessageDescriptor. `orderMap` follows R31: declared field i travels in wire slot `orderMap[i]`. No rule
reads `instanceField`. -/
structure Descriptor where
  id : MsgId
  salt : Byte
  wire : List Slot
  declared : List DeclaredField
  orderMap : List Nat
  instanceField : Option Nat
deriving DecidableEq, Repr

/-- R32: a Header record. -/
structure Header where
  marker : Byte
  plen : Byte
  seq : Byte
  sysid : Byte
  compid : Byte
  msgid : MsgId
  incompatFlags : Byte
  compatFlags : Byte
deriving DecidableEq, Repr

/-- R53, R55: a V1 frame on the wire: marker 0xFE, then these fields, with the payload length the length of
`payload`, then the 16-bit trailer. -/
structure WireV1 where
  seq : Byte
  sysid : Byte
  compid : Byte
  msgid : Byte
  payload : List Byte
  cksum : Word16
deriving DecidableEq, Repr

/-- R54, R55: a V2 frame on the wire. The marker is a field: `MARKER_V2` is an open parameter (R6). -/
structure WireV2 where
  marker : Byte
  incompatFlags : Byte
  compatFlags : Byte
  seq : Byte
  sysid : Byte
  compid : Byte
  msgid : MsgId
  payload : List Byte
  cksum : Word16
deriving DecidableEq, Repr

/-- One constructor per row of spec/opcode_table.json: the 42 operations of R63 in the table's order, the two wire
formats of R53 and R54, and the reserved codes of R64. -/
inductive Instr
  /-- `CRC.INIT`, R73. -/
  | crcInit
  /-- `CRC.BYTE b`, R74. -/
  | crcByte (b : Byte)
  /-- `CRC.BUF S`, R75. -/
  | crcBuf (bytes : List Byte)
  /-- `CRC.SALT s`, R76. -/
  | crcSalt (salt : Byte)
  /-- `CRC.READ`, R77. -/
  | crcRead
  /-- `PACK.I8 v`, R80. -/
  | packI8 (v : BitVec 8)
  /-- `PACK.U8 v`, R81. -/
  | packU8 (v : BitVec 8)
  /-- `PACK.I16 v`, R82. -/
  | packI16 (v : BitVec 16)
  /-- `PACK.U16 v`, R83. -/
  | packU16 (v : BitVec 16)
  /-- `PACK.I32 v`, R84. -/
  | packI32 (v : BitVec 32)
  /-- `PACK.U32 v`, R85. -/
  | packU32 (v : BitVec 32)
  /-- `PACK.I64 v`, R86. -/
  | packI64 (v : BitVec 64)
  /-- `PACK.U64 v`, R87. -/
  | packU64 (v : BitVec 64)
  /-- `PACK.F32 v`, R88. -/
  | packF32 (v : BitVec 32)
  /-- `PACK.F64 v`, R89. -/
  | packF64 (v : BitVec 64)
  /-- `PACK.CHAR v`, R90. -/
  | packChar (v : BitVec 8)
  /-- `PACK.LAYOUT L, V`, R104. -/
  | packLayout (layout : List Slot) (vals : List Value)
  /-- `UNPACK.I8 S, off`, R91. -/
  | unpackI8 (bytes : List Byte) (off : Nat)
  /-- `UNPACK.U8 S, off`, R92. -/
  | unpackU8 (bytes : List Byte) (off : Nat)
  /-- `UNPACK.I16 S, off`, R93. -/
  | unpackI16 (bytes : List Byte) (off : Nat)
  /-- `UNPACK.U16 S, off`, R94. -/
  | unpackU16 (bytes : List Byte) (off : Nat)
  /-- `UNPACK.I32 S, off`, R95. -/
  | unpackI32 (bytes : List Byte) (off : Nat)
  /-- `UNPACK.U32 S, off`, R96. -/
  | unpackU32 (bytes : List Byte) (off : Nat)
  /-- `UNPACK.I64 S, off`, R97. -/
  | unpackI64 (bytes : List Byte) (off : Nat)
  /-- `UNPACK.U64 S, off`, R98. -/
  | unpackU64 (bytes : List Byte) (off : Nat)
  /-- `UNPACK.F32 S, off`, R99. -/
  | unpackF32 (bytes : List Byte) (off : Nat)
  /-- `UNPACK.F64 S, off`, R100. -/
  | unpackF64 (bytes : List Byte) (off : Nat)
  /-- `UNPACK.CHAR S, off`, R101. -/
  | unpackChar (bytes : List Byte) (off : Nat)
  /-- `UNPACK.LAYOUT L, S`, R105. -/
  | unpackLayout (layout : List Slot) (bytes : List Byte)
  /-- `HDR.PACK.V1 h`, R107. -/
  | hdrPackV1 (h : Header)
  /-- `HDR.PACK.V2 h`, R108. -/
  | hdrPackV2 (h : Header)
  /-- `HDR.UNPACK.V1 S`, R109. -/
  | hdrUnpackV1 (bytes : List Byte)
  /-- `HDR.UNPACK.V2 S`, R110. -/
  | hdrUnpackV2 (bytes : List Byte)
  /-- `REORDER.D2W d, V`, R113. -/
  | reorderD2w (d : Descriptor) (vals : List Value)
  /-- `TRUNC.Z P`, R114. -/
  | truncZ (payload : List Byte)
  /-- `FRAME.ENC d, V`, R115. -/
  | frameEnc (d : Descriptor) (vals : List Value)
  /-- `SESSION.SENT n`, R117. -/
  | sessionSent (n : Nat)
  /-- `ZPAD P, n`, R119. -/
  | zpad (payload : List Byte) (n : Nat)
  /-- `REORDER.W2D d, T`, R120. -/
  | reorderW2d (d : Descriptor) (flat : List Pattern)
  /-- `FRAME.DEC C`, R122. -/
  | frameDec (cand : List Byte)
  /-- `FEED chunk`, R126. -/
  | feed (chunk : List Byte)
  /-- `STAT.READ`, R139. -/
  | statRead
  /-- The wire format `FRAME.V1`, R53: such a frame arrives on the session's stream (log 9). -/
  | frameV1 (f : WireV1)
  /-- The wire format `FRAME.V2`, R54: such a frame arrives on the session's stream (log 9). -/
  | frameV2 (f : WireV2)
  /-- The row `(reserved)`, R64: a request with a reserved code. -/
  | reserved (op : Byte)
deriving DecidableEq, Repr

/-- R62: operands are "typed values (bytes, 16-bit and 24-bit numbers, byte sequences, value lists, descriptors),
not bit fields of the request" (log 8). An 8-bit pattern is a byte. -/
inductive Operand
  | byte (b : Byte)
  | word16 (v : BitVec 16)
  | word32 (v : BitVec 32)
  | word64 (v : BitVec 64)
  | nat (n : Nat)
  | bytes (bs : List Byte)
  | layout (L : List Slot)
  | values (V : List Value)
  | flat (T : List Pattern)
  | descriptor (d : Descriptor)
  | header (h : Header)
deriving DecidableEq, Repr

/-- What stands at the session's interface: an operation request, "an 8-bit operation code `OP[7:0]` together with
the operands" (R62), or a frame laid out in one of the two wire formats (R53, R54; log 10). -/
inductive Request
  | op (code : Byte) (args : List Operand)
  | frame (v : Version) (bytes : List Byte)
deriving DecidableEq, Repr

/-- Why the decoder reads no instruction from a request. R62 cannot form such a request (logs 8 and 10). -/
inductive DecodeError
  /-- The operands are not those the operation of this code takes. -/
  | operandShape (code : Byte)
  /-- The bytes are not one frame of the wire format: too short, a first byte other than 0xFE in V1, or a length
  byte that disagrees with the number of bytes. -/
  | notAFrame
deriving DecidableEq, Repr

end Sys2Proof
end

