-- ==== Sys2Proof/Config.lean ====
section
/-! DEFINITION. The configuration a session is constructed with (00_scope.md R5, R6, R12, R13; the open parameters
of 92_eei_decisions.md). -/

namespace Sys2Proof

/-- R20, R24, R28: the configuration captured at construction, "a parameter of every operation" and written by
none. `registry` is the REGISTRY, each descriptor under its own id (R29, log 15). -/
structure Config where
  version : Version
  markerV2 : Byte
  registry : List Descriptor
deriving DecidableEq, Repr

/-- R6, D3: `MARKER_V2` is an open parameter; an OPAQUE constant, so nothing can be proved from a value of it
(log 2). Only `State.reset` uses it; every statement is about every `Config`. -/
opaque Config.deployedMarkerV2 : Byte

/-- The configuration of `State.reset` (DESIGN CHOICE, logs 1, 2 and 4). -/
def Config.deployed : Config :=
  { version := .v1, markerV2 := Config.deployedMarkerV2, registry := [] }

end Sys2Proof
end

