-- ==== Sys2Proof/Machine/Params.lean ====
section
/-! DEFINITION. The sizes and constants of 00_scope.md R6 to R10, from the configuration. -/

namespace Sys2Proof

/-- R6: `MARKER_V1 = 0xFE`. -/
def Machine.markerV1 : Byte := 0xFE

/-- R9: `SEED = 0xFFFF`. -/
def Machine.seed : Word16 := 0xFFFF

/-- R10: `POLY = 0x8408`, fixed for this hardware (log 23). -/
def Machine.poly : Word16 := 0x8408

/-- R7: the fixed header size, 6 (version 1) or 10 (version 2) bytes. -/
def Version.headerSize : Version → Nat
  | .v1 => 6
  | .v2 => 10

/-- R7, R24: `HS` of a session. -/
def Config.hs (c : Config) : Nat := c.version.headerSize

/-- R6, R24: `MARKER` of a session. -/
def Config.marker (c : Config) : Byte :=
  match c.version with
  | .v1 => Machine.markerV1
  | .v2 => c.markerV2

/-- R8: `MINFRAME = HS + 2`. -/
def Config.minFrame (c : Config) : Nat := c.hs + 2

/-- R8: `MAXFRAME = HS + 255 + 2`. -/
def Config.maxFrame (c : Config) : Nat := c.hs + 255 + 2

/-- R28: `REGISTRY[id]`, a descriptor or none. -/
def Config.lookup (c : Config) (id : MsgId) : Option Descriptor := c.registry.find? (fun d => d.id == id)

end Sys2Proof
end

