-- ==== Sys2Proof/Machine/State.lean ====
section
/-! DEFINITION. The state of one session (10_state.md), the errors, events and responses (60_exceptions.md R140,
R141), the reasons a step stops, and reset (R153). -/

namespace Sys2Proof.Machine

/-- R140: the eleven error values with the arguments they record. An error is no fault of the machine: it is the
response of an operation (R141), or the reason of an event. -/
inductive Err
  /-- `FEED` step 2: the first byte of RXBUF is not MARKER. -/
  | badPrefix
  /-- Fewer bytes than the header size. -/
  | headerUnderrun
  /-- The byte at offset 0 is not MARKER. -/
  | badMarker (actual : Byte)
  /-- The header's length byte, and `len(C) - HS - 2`, "an integer that may be -2 or -1". -/
  | lengthMismatch (expected : Byte) (actual : Int)
  /-- The id is not in the REGISTRY. -/
  | unknownMessageId (id : MsgId)
  /-- The value computed and the value in the trailer. -/
  | checksumMismatch (expected received : Word16)
  /-- Fewer bytes remain than the layout requires. -/
  | truncatedPayload
  /-- A message id above 255 in V1. -/
  | messageIdRange (id : MsgId)
  /-- A payload longer than 255 bytes. -/
  | payloadTooLong (n : Nat)
  /-- A value list that does not fit the layout. -/
  | valueShape
  /-- A reserved operation code. -/
  | unknownOp (op : Byte)
deriving DecidableEq, Repr

/-- R33: a Message, a descriptor's id and one value per declared field. -/
structure Message where
  id : MsgId
  values : List Value
deriving DecidableEq, Repr

/-- R34: a MalformedDataEvent. -/
structure Event where
  bytes : List Byte
  reason : Err
deriving DecidableEq, Repr

/-- R126: an element of FEED's result. -/
inductive Item
  | message (m : Message)
  | event (e : Event)
deriving DecidableEq, Repr

/-- R62: "the response is the result the rule names or one error value"; one constructor per kind of result in the
table of R63. -/
inductive Response
  /-- "none" in R63's result column. -/
  | done
  | crc (c : Word16)
  | pattern (p : Pattern)
  | bytes (B : List Byte)
  | flat (T : List Pattern)
  | header (h : Header)
  | values (V : List Value)
  | message (m : Message)
  | items (out : List Item)
  /-- R139: SEQ and the five counters, in that rule's order. -/
  | stats (seq : Byte) (pktsSent bytesSent pktsRcvd bytesRcvd rxErrors : Nat)
  | error (e : Err)
deriving DecidableEq, Repr

/-- The reasons the machine stops with a fault: none. R145: "None of these are fatal"; every error of the spec is a
response (log 19). Safe: there is no fault a claim could rest on. -/
inductive Fault
deriving DecidableEq, Repr

/-- The reasons a step has no meaning. -/
inductive Refusal
  /-- An instruction whose meaning is not written; no arm of `exec` raises it now. Safe. -/
  | notModelled (mnemonic : String)
  /-- `step` raises it for a request whose operands are not those of its operation code: R62 cannot form it (log 8).
  Safe: the model stops where the spec has no request. -/
  | malformedOperands (code : Byte)
  /-- `step` raises it for wire bytes that are not one frame of the stated format (log 10). Safe. -/
  | malformedFrame
  /-- `REORDER.D2W`, `REORDER.W2D` and `FRAME.ENC` raise it for an operand descriptor that is not well-formed: R146
  gives no behaviour without well-formedness (log 13). Safe. -/
  | illFormedDescriptor
  /-- `FRAME.DEC`, `FEED` and the reception of a wire frame raise it in a session whose REGISTRY is not well-formed:
  "The block is never constructed" so (R146, log 14). Safe. -/
  | illFormedRegistry
  /-- `stepSession` raises it when the host names a session that does not exist (log 18). Safe. -/
  | noSuchSession
deriving DecidableEq, Repr

/-- R20: the state of one session; then the configuration (log 5) and the transaction interface (logs 6, 7). -/
structure State where
  /-- R21: CRC, the running checksum state. -/
  crc : Word16
  /-- R22: SEQ, the sequence counter. -/
  seq : Byte
  /-- R23: SYSID. -/
  sysid : Byte
  /-- R23: COMPID. -/
  compid : Byte
  /-- R25: RXBUF, the receive buffer, head first. -/
  rxbuf : List Byte
  /-- R26: EXPECTED_LEN. -/
  expectedLen : Nat
  /-- R27: PKTS_SENT. -/
  pktsSent : Nat
  /-- R27: BYTES_SENT. -/
  bytesSent : Nat
  /-- R27: PKTS_RCVD. -/
  pktsRcvd : Nat
  /-- R27: BYTES_RCVD. -/
  bytesRcvd : Nat
  /-- R27: RX_ERRORS. -/
  rxErrors : Nat
  /-- R24, R28: VERSION, MARKER_V2 and REGISTRY, written by no operation. -/
  cfg : Config
  /-- The model's own: the requests the host has issued and the block has not begun, oldest first (log 6). -/
  requests : List Request
  /-- The model's own: the response of the last operation performed (log 7). -/
  response : Option Response
deriving DecidableEq, Repr

/-- R37, R153: the reset state of a session constructed with these parameters. -/
def State.construct (c : Config) (sysid0 compid0 : Byte) : State :=
  { crc := seed
    seq := 0
    sysid := sysid0
    compid := compid0
    rxbuf := []
    expectedLen := c.hs
    pktsSent := 0
    bytesSent := 0
    pktsRcvd := 0
    bytesRcvd := 0
    rxErrors := 0
    cfg := c
    requests := []
    response := none }

/-- R37, R153: the machine right after reset, at the parameters logs 1 to 4 name. -/
def State.reset : State := State.construct Config.deployed 0 0

end Sys2Proof.Machine
end

