-- ==== Sys2Proof/Machine/Operands.lean ====
section
/-! DEFINITION. Operand forms: kinds, slots, patterns, values and layouts (10_state.md R29 to R31, 30_encoding.md R59,
41_scalar_codec.md R78, R79, R102 to R106). -/

namespace Sys2Proof

/-- R59: `size(kind)` in bytes. -/
def Kind.size : Kind → Nat
  | .i8 => 1
  | .u8 => 1
  | .i16 => 2
  | .u16 => 2
  | .i32 => 4
  | .u32 => 4
  | .i64 => 8
  | .u64 => 8
  | .f32 => 4
  | .f64 => 8
  | .char => 1

/-- R59: the kind code. -/
def Kind.code : Kind → Nat
  | .i8 => 0
  | .u8 => 1
  | .i16 => 2
  | .u16 => 3
  | .i32 => 4
  | .u32 => 5
  | .i64 => 6
  | .u64 => 7
  | .f32 => 8
  | .f64 => 9
  | .char => 10

/-- R59, X2: the kind of a code; 11 to 15 are reserved and name none. -/
def Kind.ofCode : Nat → Option Kind
  | 0 => some .i8
  | 1 => some .u8
  | 2 => some .i16
  | 3 => some .u16
  | 4 => some .i32
  | 5 => some .u32
  | 6 => some .i64
  | 7 => some .u64
  | 8 => some .f32
  | 9 => some .f64
  | 10 => some .char
  | _ => none

/-- R78: the number of bytes of a pattern. -/
def Pattern.size : Pattern → Nat
  | .b8 _ => 1
  | .b16 _ => 2
  | .b32 _ => 4
  | .b64 _ => 8

/-- The pattern as a number. -/
def Pattern.toNat : Pattern → Nat
  | .b8 v => v.toNat
  | .b16 v => v.toNat
  | .b32 v => v.toNat
  | .b64 v => v.toNat

/-- The pattern of `8 * size(k)` bits that holds a number. -/
def Kind.pattern (k : Kind) (n : Nat) : Pattern :=
  match k with
  | .i8 => .b8 (BitVec.ofNat 8 n)
  | .u8 => .b8 (BitVec.ofNat 8 n)
  | .char => .b8 (BitVec.ofNat 8 n)
  | .i16 => .b16 (BitVec.ofNat 16 n)
  | .u16 => .b16 (BitVec.ofNat 16 n)
  | .i32 => .b32 (BitVec.ofNat 32 n)
  | .u32 => .b32 (BitVec.ofNat 32 n)
  | .f32 => .b32 (BitVec.ofNat 32 n)
  | .i64 => .b64 (BitVec.ofNat 64 n)
  | .u64 => .b64 (BitVec.ofNat 64 n)
  | .f64 => .b64 (BitVec.ofNat 64 n)

/-- R59, R78: the integer a caller means by a pattern of an integer kind; a float or a character has no integer
reading, only its pattern. No byte on the wire depends on it. -/
def Kind.reading (k : Kind) (p : Pattern) : Option Int :=
  match k, p with
  | .i8, .b8 v => some (Machine.sint v)
  | .i16, .b16 v => some (Machine.sint v)
  | .i32, .b32 v => some (Machine.sint v)
  | .i64, .b64 v => some (Machine.sint v)
  | .u8, .b8 v => some v.toNat
  | .u16, .b16 v => some v.toNat
  | .u32, .b32 v => some v.toNat
  | .u64, .b64 v => some v.toNat
  | _, _ => none

/-- R30: the flat count `fc(slot)`. -/
def Slot.fc (sl : Slot) : Nat := if sl.alen = 0 then 1 else sl.alen

/-- R30: the byte size of a slot. -/
def Slot.bytes (sl : Slot) : Nat := sl.fc * sl.kind.size

/-- R30: the byte length of a layout; `WL(d)` for a descriptor's wire layout. -/
def Machine.layoutLen : List Slot → Nat
  | [] => 0
  | sl :: L => sl.bytes + Machine.layoutLen L

/-- R30: the number of elements of a layout; `FL(d)` for a descriptor's wire layout. -/
def Machine.flatLen : List Slot → Nat
  | [] => 0
  | sl :: L => sl.fc + Machine.flatLen L

/-- R30: `WL(d)`. -/
def Descriptor.wireLen (d : Descriptor) : Nat := Machine.layoutLen d.wire

/-- R30: `FL(d)`. -/
def Descriptor.flatLen (d : Descriptor) : Nat := Machine.flatLen d.wire

/-- R42: `off(w)`, the byte offset of wire slot w in the untruncated payload. -/
def Descriptor.slotOffset (d : Descriptor) (w : Nat) : Nat := Machine.layoutLen (d.wire.take w)

/-- R120: the first flat index of wire slot w, counted in elements. -/
def Descriptor.slotTip (d : Descriptor) (w : Nat) : Nat := Machine.flatLen (d.wire.take w)

namespace Machine

/-- R79: `pack_k(v) = le_n(v)`; kinds of equal size have equal functions, so the pattern's width decides. -/
def packPattern (p : Pattern) : List Byte := le p.size p.toNat

/-- R79: `unpack_k(S, off)`. `len(S) - off` is an integer and may be negative. -/
def unpackKind (k : Kind) (S : List Byte) (off : Nat) : Except Err Pattern :=
  if (S.length : Int) - off < k.size then .error .truncatedPayload
  else .ok (k.pattern (memRead S off k.size))

/-- R106: the elements of one value. -/
def valueElems : Value → List Pattern
  | .scalar p => [p]
  | .array ps => ps

/-- R106: the flat spreading of a value list: "each scalar once, each array element by element, in order". -/
def flatten (V : List Value) : List Pattern := V.flatMap valueElems

/-- R104: the value has the slot's shape: a scalar when `alen = 0`, else "an array of exactly alen elements". -/
def shapeFits (sl : Slot) (v : Value) : Bool :=
  match v with
  | .scalar _ => sl.alen == 0
  | .array ps => sl.alen != 0 && ps.length == sl.alen

/-- R33, R78: every element is a pattern of the kind's width. -/
def widthFits (k : Kind) (v : Value) : Bool := (valueElems v).all fun p => p.size == k.size

/-- R104: the value fits the slot. Shape is the spec's condition; width is a premise of its value types, and a pattern
of another width does not fit either (log 12). -/
def fitsSlot (sl : Slot) (v : Value) : Bool := shapeFits sl v && widthFits sl.kind v

/-- R104: the value list fits the layout: as many values as slots, each fitting its slot. -/
def fitsLayout (L : List Slot) (V : List Value) : Bool :=
  V.length == L.length && (L.zip V).all fun p => fitsSlot p.1 p.2

/-- R104: the bytes of one slot's value, its elements in index order (R102), or `ValueShape`. -/
def packSlot (sl : Slot) (v : Value) : Except Err (List Byte) :=
  if fitsSlot sl v then .ok ((valueElems v).flatMap packPattern) else .error .valueShape

/-- R104: `pack_layout(L, V)`; `ValueShape` when the numbers of slots and values differ. -/
def packLayout : List Slot → List Value → Except Err (List Byte)
  | [], [] => .ok []
  | sl :: L, v :: V =>
    match packSlot sl v, packLayout L V with
    | .ok a, .ok b => .ok (a ++ b)
    | .error e, _ => .error e
    | _, .error e => .error e
  | _, _ => .error .valueShape

/-- R105: n elements of kind k from byte `off` on. -/
def unpackElems (k : Kind) (S : List Byte) : Nat → Nat → Except Err (List Pattern)
  | 0, _ => .ok []
  | n + 1, off =>
    match unpackKind k S off, unpackElems k S n (off + k.size) with
    | .ok p, .ok T => .ok (p :: T)
    | .error e, _ => .error e
    | _, .error e => .error e

/-- R105: the slots of a layout from byte `off` on. -/
def unpackFrom (S : List Byte) : List Slot → Nat → Except Err (List Pattern)
  | [], _ => .ok []
  | sl :: L, off =>
    match unpackElems sl.kind S sl.fc off, unpackFrom S L (off + sl.bytes) with
    | .ok T, .ok T' => .ok (T ++ T')
    | .error e, _ => .error e
    | _, .error e => .error e

/-- R105: `unpack_layout(L, S)`, the flat sequence. -/
def unpackLayout (L : List Slot) (S : List Byte) : Except Err (List Pattern) := unpackFrom S L 0

/-- R106, R120: the value of a slot whose elements are given. -/
def groupSlot (sl : Slot) (ps : List Pattern) : Value :=
  match sl.alen, ps with
  | 0, [p] => .scalar p
  | _, ps => .array ps

/-- R106: `group` gathers each array slot's elements back into an array. -/
def group : List Slot → List Pattern → List Value
  | [], _ => []
  | sl :: L, T => groupSlot sl (T.take sl.fc) :: group L (T.drop sl.fc)

end Machine

end Sys2Proof
end

