-- ==== Sys2Proof/Machine/Ops.lean ====
section
/-! DEFINITION. The named operations over the state: register writes, the RXBUF discipline of R45, the delivery of a
result, and the raising of an error (60_exceptions.md R141, R144), once for all instructions. -/

namespace Sys2Proof.Machine

/-- Write CRC (R21). -/
def State.setCrc (c : Word16) (s : State) : State := { s with crc := c }

/-- R117: the send bookkeeping; SEQ is 8 bits wide, so adding 1 wraps modulo 256. -/
def State.countSent (n : Nat) (s : State) : State :=
  { s with seq := s.seq + 1, pktsSent := s.pktsSent + 1, bytesSent := s.bytesSent + n }

/-- R127: append a chunk at the tail of RXBUF and add its length to BYTES_RCVD. -/
def State.receive (chunk : List Byte) (s : State) : State :=
  { s with rxbuf := s.rxbuf ++ chunk, bytesRcvd := s.bytesRcvd + chunk.length }

/-- R128: remove one byte from the head of RXBUF, `EXPECTED_LEN <- HS`, and count one error. -/
def State.dropHead (s : State) : State :=
  { s with rxbuf := s.rxbuf.drop 1, expectedLen := s.cfg.hs, rxErrors := s.rxErrors + 1 }

/-- Write EXPECTED_LEN (R26, R129). -/
def State.setExpected (n : Nat) (s : State) : State := { s with expectedLen := n }

/-- R45, R130: take EXPECTED_LEN bytes from the head of RXBUF, `EXPECTED_LEN <- HS`. -/
def State.dropFrame (s : State) : State :=
  { s with rxbuf := s.rxbuf.drop s.expectedLen, expectedLen := s.cfg.hs }

/-- R131: count one received packet. -/
def State.countPacket (s : State) : State := { s with pktsRcvd := s.pktsRcvd + 1 }

/-- R131: count one malformed-data event. -/
def State.countError (s : State) : State := { s with rxErrors := s.rxErrors + 1 }

/-- Put the operation's response where the host reads it (R62, R141, log 7). -/
def State.respond (r : Response) (s : State) : State := { s with response := some r }

/-- The outcome of one step of this machine. -/
abbrev Result := Host.Outcome State Fault Refusal

/-- R18: `return v` ends the operation with its result; the operation's state writes stand in `s`. -/
def ret (r : Response) (s : State) : Result := .next (s.respond r)

/-- R18, R144: `raise e` ends the operation with the error as its response: no state is written, nothing is saved,
control goes nowhere. R145: there is no return from it; the block is ready for the next operation. -/
def raise (e : Err) (s : State) : Result := .next (s.respond (.error e))

/-- R141: the result of a pure operation, or its error, becomes the response. -/
def deliver {α : Type} (x : Except Err α) (f : α → Response) (s : State) : Result :=
  match x with
  | .ok a => ret (f a) s
  | .error e => raise e s

end Sys2Proof.Machine
end

