-- ==== Sys2Proof/Machine/Checksum.lean ====
section
/-! DEFINITION. The checksum operations, 40_checksum.md R73 to R77. -/

namespace Sys2Proof.Machine

/-- R73: `CRC <- 0xFFFF`. -/
def execCrcInit (s : State) : Result := ret .done (s.setCrc seed)

/-- R74: `CRC <- crc_step(CRC, b)`. -/
def execCrcByte (b : Byte) (s : State) : Result := ret .done (s.setCrc (crcStep s.crc b))

/-- R75: `CRC <- crc_fold(CRC, S)`. -/
def execCrcBuf (bytes : List Byte) (s : State) : Result := ret .done (s.setCrc (crcFold s.crc bytes))

/-- R76: `CRC <- crc_step(CRC, s)`; the byte is a descriptor's salt. -/
def execCrcSalt (salt : Byte) (s : State) : Result := ret .done (s.setCrc (crcStep s.crc salt))

/-- R77: `return CRC`. -/
def execCrcRead (s : State) : Result := ret (.crc s.crc) s

end Sys2Proof.Machine
end

