-- ==== Sys2Proof/WellFormed.lean ====
section
/-! DEFINITION. Well-formed descriptors, registries and instructions (10_state.md R31, 60_exceptions.md R146, D27;
30_encoding.md R52, R64). -/

namespace Sys2Proof

/-- R29, R31: `order_map` is a permutation of 0 to n-1, `wire` and `declared` have n entries, and declared field i
has the slot of wire slot `order_map[i]`. Salt and id are in range by their types. -/
abbrev Descriptor.WellFormed (d : Descriptor) : Prop :=
  d.wire.length = d.declared.length ∧
  d.orderMap.length = d.declared.length ∧
  d.orderMap.Nodup ∧
  (∀ w ∈ d.orderMap, w < d.wire.length) ∧
  (∀ p ∈ d.orderMap.zip d.declared, d.wire[p.1]? = some p.2.slot)

/-- R28, R155: every descriptor of the REGISTRY is well-formed and an id has at most one descriptor. -/
abbrev Config.WellFormed (c : Config) : Prop :=
  (∀ d ∈ c.registry, d.WellFormed) ∧ (c.registry.map Descriptor.id).Nodup

/-- R64: the reserved operation codes, range by range as the rule lists them. -/
def isReservedCode (op : Byte) : Bool :=
  op == 0x00 ||
  (0x06 ≤ op && op ≤ 0x0F) ||
  (0x1B ≤ op && op ≤ 0x1E) ||
  (0x2B ≤ op && op ≤ 0x2E) ||
  (0x34 ≤ op && op ≤ 0x3F) ||
  (0x44 ≤ op && op ≤ 0x47) ||
  (0x4B ≤ op && op ≤ 0x4F) ||
  0x52 ≤ op

/-- The premises on an instruction's operands: descriptors are well-formed (R146), a wire frame's payload fits the
length byte (R52), a reserved code is one of R64's. The types hold every other range. -/
def Instr.wf : Instr → Bool
  | .crcInit => true
  | .crcByte _ => true
  | .crcBuf _ => true
  | .crcSalt _ => true
  | .crcRead => true
  | .packI8 _ => true
  | .packU8 _ => true
  | .packI16 _ => true
  | .packU16 _ => true
  | .packI32 _ => true
  | .packU32 _ => true
  | .packI64 _ => true
  | .packU64 _ => true
  | .packF32 _ => true
  | .packF64 _ => true
  | .packChar _ => true
  | .packLayout _ _ => true
  | .unpackI8 _ _ => true
  | .unpackU8 _ _ => true
  | .unpackI16 _ _ => true
  | .unpackU16 _ _ => true
  | .unpackI32 _ _ => true
  | .unpackU32 _ _ => true
  | .unpackI64 _ _ => true
  | .unpackU64 _ _ => true
  | .unpackF32 _ _ => true
  | .unpackF64 _ _ => true
  | .unpackChar _ _ => true
  | .unpackLayout _ _ => true
  | .hdrPackV1 _ => true
  | .hdrPackV2 _ => true
  | .hdrUnpackV1 _ => true
  | .hdrUnpackV2 _ => true
  | .reorderD2w d _ => decide d.WellFormed
  | .truncZ _ => true
  | .frameEnc d _ => decide d.WellFormed
  | .sessionSent _ => true
  | .zpad _ _ => true
  | .reorderW2d d _ => decide d.WellFormed
  | .frameDec _ => true
  | .feed _ => true
  | .statRead => true
  | .frameV1 f => decide (f.payload.length ≤ 255)
  | .frameV2 f => decide (f.payload.length ≤ 255)
  | .reserved op => isReservedCode op

end Sys2Proof
end

