-- ==== Sys2Proof/Machine/Codec.lean ====
section
/-! DEFINITION. The pure functions of the header codec (42_header_codec.md) and of the message codec
(43_framer_encode.md, 44_framer_decode.md). None of them sees a state: they read the configuration and, to encode,
the three registers a frame carries. -/

namespace Sys2Proof.Machine

/-- R107: `hdr_pack_v1(h)`. The flags are not read. -/
def hdrPackV1 (h : Header) : Except Err (List Byte) :=
  if h.msgid.toNat > 255 then .error (.messageIdRange h.msgid)
  else .ok [h.marker, h.plen, h.seq, h.sysid, h.compid, h.msgid.extractLsb' 0 8]

/-- R108: `hdr_pack_v2(h)`. -/
def hdrPackV2 (h : Header) : List Byte :=
  [h.marker, h.plen, h.incompatFlags, h.compatFlags, h.seq, h.sysid, h.compid,
    h.msgid.extractLsb' 0 8, h.msgid.extractLsb' 8 8, h.msgid.extractLsb' 16 8]

/-- R109: `hdr_unpack_v1(S)`. -/
def hdrUnpackV1 : List Byte → Except Err Header
  | b0 :: b1 :: b2 :: b3 :: b4 :: b5 :: _ =>
    .ok { marker := b0, plen := b1, seq := b2, sysid := b3, compid := b4, msgid := zext 24 b5,
          incompatFlags := 0, compatFlags := 0 }
  | _ => .error .headerUnderrun

/-- R110: `hdr_unpack_v2(S)`. -/
def hdrUnpackV2 : List Byte → Except Err Header
  | b0 :: b1 :: b2 :: b3 :: b4 :: b5 :: b6 :: b7 :: b8 :: b9 :: _ =>
    .ok { marker := b0, plen := b1, incompatFlags := b2, compatFlags := b3, seq := b4, sysid := b5, compid := b6,
          msgid := BitVec.ofNat 24 (unle [b7, b8, b9]) }
  | _ => .error .headerUnderrun

/-- R107: the codec that matches VERSION, packing. -/
def hdrPack (v : Version) (h : Header) : Except Err (List Byte) :=
  match v with
  | .v1 => hdrPackV1 h
  | .v2 => .ok (hdrPackV2 h)

/-- R122 step 1: the codec that matches VERSION, unpacking. -/
def hdrUnpack (v : Version) (S : List Byte) : Except Err Header :=
  match v with
  | .v1 => hdrUnpackV1 S
  | .v2 => hdrUnpackV2 S

/-- R113: the loop `W[order_map[i]] = V[i]`. -/
def scatter {α : Type} : List Nat → List α → List α → List α
  | w :: ws, v :: vs, W => scatter ws vs (W.set w v)
  | _, _, W => W

/-- R113: `reorder_d2w(d, V)`. Every place of the n is written, since `order_map` is a permutation, so what the places
hold before the loop (here V itself) does not matter. -/
def reorderD2w (d : Descriptor) (V : List Value) : Except Err (List Value) :=
  if V.length ≠ d.declared.length then .error .valueShape
  else .ok (scatter d.orderMap V V)

/-- R114: the length left by the loop `while n > 1 and P[n-1] = 0x00`. -/
def truncLen (P : List Byte) : Nat → Nat
  | 0 => 0
  | 1 => 1
  | n + 2 => if P.getD (n + 1) 0 = 0 then truncLen P (n + 1) else n + 2

/-- R114: `trunc_z(P)`. -/
def truncZ (P : List Byte) : List Byte := P.take (truncLen P P.length)

/-- R119: `zpad(P, n)`. -/
def zpad (P : List Byte) (n : Nat) : List Byte := if P.length < n then P ++ zeros (n - P.length) else P

/-- R120: the value of wire slot w in a flat sequence of length `FL(d)`. The defaults stand for places that a
well-formed descriptor and a sequence of that length do not have. -/
def gatherSlot (d : Descriptor) (T : List Pattern) (w : Nat) : Value :=
  match (d.wire.map Slot.alen).getD w 0 with
  | 0 => .scalar (T.getD (d.slotTip w) (.b8 0))
  | alen => .array (slice T (d.slotTip w) (d.slotTip w + alen))

/-- R120, R121: `reorder_w2d(d, T)`, the one reordering algorithm. -/
def reorderW2d (d : Descriptor) (T : List Pattern) : Except Err (List Value) :=
  if T.length ≠ d.flatLen then .error .valueShape
  else .ok (d.orderMap.map (gatherSlot d T))

/-- R115 step 3: truncation, in V2 only. -/
def wirePayload (v : Version) (P : List Byte) : List Byte :=
  match v with
  | .v1 => P
  | .v2 => truncZ P

/-- R122 step 5: the zero padding, in V2 only. -/
def fullPayload (v : Version) (P : List Byte) (n : Nat) : List Byte :=
  match v with
  | .v1 => P
  | .v2 => zpad P n

/-- R115 step 4: the header of a frame with this payload length. -/
def encHeader (c : Config) (seq sysid compid : Byte) (d : Descriptor) (plen : Nat) : Header :=
  { marker := c.marker, plen := BitVec.ofNat 8 plen, incompatFlags := 0, compatFlags := 0,
    seq := seq, sysid := sysid, compid := compid, msgid := d.id }

/-- R115 steps 4 to 6, from the payload as it goes on the wire. -/
def encPayload (c : Config) (seq sysid compid : Byte) (d : Descriptor) (P : List Byte) : Except Err (List Byte) :=
  if P.length > 255 then .error (.payloadTooLong P.length)
  else
    match hdrPack c.version (encHeader c seq sysid compid d P.length) with
    | .error e => .error e
    | .ok H => .ok (H ++ P ++ le 2 (frameChecksum H P d.salt).toNat)

/-- R115: `frame_enc(d, V)` in a session with these registers. -/
def encodeFrame (c : Config) (seq sysid compid : Byte) (d : Descriptor) (V : List Value) : Except Err (List Byte) :=
  match reorderD2w d V with
  | .error e => .error e
  | .ok W =>
    match packLayout d.wire W with
    | .error e => .error e
    | .ok P => encPayload c seq sysid compid d (wirePayload c.version P)

/-- R122: the candidate's trailer as a number, `C[len(C)-2] + 256 * C[len(C)-1]`. -/
def trailer (C : List Byte) : Word16 := BitVec.ofNat 16 (unle (C.drop (C.length - 2)))

/-- R122 steps 7 to 9. -/
def decodeValues (d : Descriptor) (id : MsgId) (P : List Byte) : Except Err Message :=
  match unpackLayout d.wire P with
  | .error e => .error e
  | .ok T =>
    match reorderW2d d T with
    | .error e => .error e
    | .ok V => .ok { id := id, values := V }

/-- R122 steps 5 to 9: the checksum is over the payload as received, not over the padded payload (C2). -/
def decodeBody (c : Config) (d : Descriptor) (h : Header) (C : List Byte) : Except Err Message :=
  let P := slice C c.hs (c.hs + h.plen.toNat)
  let expected := frameChecksum (C.take c.hs) P d.salt
  if expected ≠ trailer C then .error (.checksumMismatch expected (trailer C))
  else decodeValues d h.msgid (fullPayload c.version P d.wireLen)

/-- R122: `frame_dec(C)`, steps 1 to 4 and then the body. -/
def decodeFrame (c : Config) (C : List Byte) : Except Err Message :=
  match hdrUnpack c.version C with
  | .error e => .error e
  | .ok h =>
    let actual : Int := (C.length : Int) - c.hs - 2
    if h.marker ≠ c.marker then .error (.badMarker h.marker)
    else if (h.plen.toNat : Int) ≠ actual then .error (.lengthMismatch h.plen actual)
    else
      match c.lookup h.msgid with
      | none => .error (.unknownMessageId h.msgid)
      | some d => decodeBody c d h C

end Sys2Proof.Machine
end

