-- ==== Sys2Proof/Machine/FramerDecode.lean ====
section
/-! DEFINITION. The framer's decode side, 44_framer_decode.md R119 to R123. -/

namespace Sys2Proof.Machine

/-- R119: `ZPAD P, n`. -/
def execZpad (payload : List Byte) (n : Nat) (s : State) : Result := ret (.bytes (zpad payload n)) s

/-- R120: `REORDER.W2D d, T`. -/
def execReorderW2d (d : Descriptor) (flat : List Pattern) (s : State) : Result :=
  if d.WellFormed then deliver (reorderW2d d flat) .values s else .refused .illFormedDescriptor

/-- R122, R123: `FRAME.DEC C`; no state is written, no counter moves. -/
def execFrameDec (cand : List Byte) (s : State) : Result :=
  if s.cfg.WellFormed then deliver (decodeFrame s.cfg cand) .message s else .refused .illFormedRegistry

end Sys2Proof.Machine
end

