-- ==== Sys2Proof/Machine/FramerEncode.lean ====
section
/-! DEFINITION. The framer's encode side, 43_framer_encode.md R113 to R117. R146 gives no behaviour for a descriptor
that is not well-formed; the operations that take one refuse it by name (log 13). -/

namespace Sys2Proof.Machine

/-- R113: `REORDER.D2W d, V`. -/
def execReorderD2w (d : Descriptor) (vals : List Value) (s : State) : Result :=
  if d.WellFormed then deliver (reorderD2w d vals) .values s else .refused .illFormedDescriptor

/-- R114: `TRUNC.Z P`. -/
def execTruncZ (payload : List Byte) (s : State) : Result := ret (.bytes (truncZ payload)) s

/-- R115, R116: `FRAME.ENC d, V`, with the session's SEQ, SYSID and COMPID; no state is written. -/
def execFrameEnc (d : Descriptor) (vals : List Value) (s : State) : Result :=
  if d.WellFormed then deliver (encodeFrame s.cfg s.seq s.sysid s.compid d vals) .bytes s
  else .refused .illFormedDescriptor

/-- R117: `SESSION.SENT n`. -/
def execSessionSent (n : Nat) (s : State) : Result := ret .done (s.countSent n)

end Sys2Proof.Machine
end

