-- ==== Sys2Proof/Machine/HeaderCodec.lean ====
section
/-! DEFINITION. The header codec operations, 42_header_codec.md R107 to R110. All four exist in every session whatever
its VERSION; none writes state but the response. -/

namespace Sys2Proof.Machine

/-- R107: `HDR.PACK.V1 h`. -/
def execHdrPackV1 (h : Header) (s : State) : Result := deliver (hdrPackV1 h) .bytes s

/-- R108: `HDR.PACK.V2 h`. -/
def execHdrPackV2 (h : Header) (s : State) : Result := ret (.bytes (hdrPackV2 h)) s

/-- R109: `HDR.UNPACK.V1 S`. The marker is returned, not checked. -/
def execHdrUnpackV1 (bytes : List Byte) (s : State) : Result := deliver (hdrUnpackV1 bytes) .header s

/-- R110: `HDR.UNPACK.V2 S`. -/
def execHdrUnpackV2 (bytes : List Byte) (s : State) : Result := deliver (hdrUnpackV2 bytes) .header s

end Sys2Proof.Machine
end

