-- ==== Sys2Proof/Machine/ScalarCodec.lean ====
section
/-! DEFINITION. The scalar codec operations, 41_scalar_codec.md R80 to R105. None writes state but the response. -/

namespace Sys2Proof.Machine

/-- R79, R80 to R90: the bytes of one element. -/
def packElem (p : Pattern) (s : State) : Result := ret (.bytes (packPattern p)) s

/-- R79, R91 to R101: one element at a byte offset, or `TruncatedPayload`. -/
def unpackElem (k : Kind) (bytes : List Byte) (off : Nat) (s : State) : Result :=
  deliver (unpackKind k bytes off) .pattern s

/-- R80: `PACK.I8 v`. -/
def execPackI8 (v : BitVec 8) (s : State) : Result := packElem (.b8 v) s

/-- R81: `PACK.U8 v`. -/
def execPackU8 (v : BitVec 8) (s : State) : Result := packElem (.b8 v) s

/-- R82: `PACK.I16 v`. -/
def execPackI16 (v : BitVec 16) (s : State) : Result := packElem (.b16 v) s

/-- R83: `PACK.U16 v`. -/
def execPackU16 (v : BitVec 16) (s : State) : Result := packElem (.b16 v) s

/-- R84: `PACK.I32 v`. -/
def execPackI32 (v : BitVec 32) (s : State) : Result := packElem (.b32 v) s

/-- R85: `PACK.U32 v`. -/
def execPackU32 (v : BitVec 32) (s : State) : Result := packElem (.b32 v) s

/-- R86: `PACK.I64 v`. -/
def execPackI64 (v : BitVec 64) (s : State) : Result := packElem (.b64 v) s

/-- R87: `PACK.U64 v`. -/
def execPackU64 (v : BitVec 64) (s : State) : Result := packElem (.b64 v) s

/-- R88: `PACK.F32 v`. -/
def execPackF32 (v : BitVec 32) (s : State) : Result := packElem (.b32 v) s

/-- R89: `PACK.F64 v`. -/
def execPackF64 (v : BitVec 64) (s : State) : Result := packElem (.b64 v) s

/-- R90: `PACK.CHAR v`. -/
def execPackChar (v : BitVec 8) (s : State) : Result := packElem (.b8 v) s

/-- R104: `PACK.LAYOUT L, V`. -/
def execPackLayout (layout : List Slot) (vals : List Value) (s : State) : Result :=
  deliver (packLayout layout vals) .bytes s

/-- R91: `UNPACK.I8 S, off`. -/
def execUnpackI8 (bytes : List Byte) (off : Nat) (s : State) : Result := unpackElem .i8 bytes off s

/-- R92: `UNPACK.U8 S, off`. -/
def execUnpackU8 (bytes : List Byte) (off : Nat) (s : State) : Result := unpackElem .u8 bytes off s

/-- R93: `UNPACK.I16 S, off`. -/
def execUnpackI16 (bytes : List Byte) (off : Nat) (s : State) : Result := unpackElem .i16 bytes off s

/-- R94: `UNPACK.U16 S, off`. -/
def execUnpackU16 (bytes : List Byte) (off : Nat) (s : State) : Result := unpackElem .u16 bytes off s

/-- R95: `UNPACK.I32 S, off`. -/
def execUnpackI32 (bytes : List Byte) (off : Nat) (s : State) : Result := unpackElem .i32 bytes off s

/-- R96: `UNPACK.U32 S, off`. -/
def execUnpackU32 (bytes : List Byte) (off : Nat) (s : State) : Result := unpackElem .u32 bytes off s

/-- R97: `UNPACK.I64 S, off`. -/
def execUnpackI64 (bytes : List Byte) (off : Nat) (s : State) : Result := unpackElem .i64 bytes off s

/-- R98: `UNPACK.U64 S, off`. -/
def execUnpackU64 (bytes : List Byte) (off : Nat) (s : State) : Result := unpackElem .u64 bytes off s

/-- R99: `UNPACK.F32 S, off`. -/
def execUnpackF32 (bytes : List Byte) (off : Nat) (s : State) : Result := unpackElem .f32 bytes off s

/-- R100: `UNPACK.F64 S, off`. -/
def execUnpackF64 (bytes : List Byte) (off : Nat) (s : State) : Result := unpackElem .f64 bytes off s

/-- R101: `UNPACK.CHAR S, off`. -/
def execUnpackChar (bytes : List Byte) (off : Nat) (s : State) : Result := unpackElem .char bytes off s

/-- R105: `UNPACK.LAYOUT L, S`. -/
def execUnpackLayout (layout : List Slot) (bytes : List Byte) (s : State) : Result :=
  deliver (unpackLayout layout bytes) .flat s

end Sys2Proof.Machine
end

