-- ==== Sys2Proof/Machine/Parser.lean ====
section
/-! DEFINITION. The stream parser's loop, steps 1 to 6 of 45_stream_parser.md R126 to R132. -/

namespace Sys2Proof.Machine

/-- R128: the byte that step 2 removes, if the head of RXBUF is not MARKER. -/
def resyncByte (s : State) : Option Byte :=
  match s.rxbuf with
  | [] => none
  | b :: _ => if b = s.cfg.marker then none else some b

/-- R129: step 3, length discovery. -/
def discoverLength (s : State) : State :=
  match s.rxbuf with
  | _ :: plen :: _ => s.setExpected (plen.toNat + s.cfg.hs + 2)
  | _ => s

/-- R130: the condition of step 4. -/
def frameReady (s : State) : Bool := s.cfg.minFrame ≤ s.expectedLen && s.expectedLen ≤ s.rxbuf.length

/-- What one pass of steps 2 to 6 does: it stops the loop, or yields one item and goes on. -/
inductive Pass
  | stop (s : State)
  | again (s : State) (item : Item)

/-- R131: step 5, the candidate decoded and counted; `s` is the state after the extraction. -/
def decodePass (s : State) (cand : List Byte) : Pass :=
  match decodeFrame s.cfg cand with
  | .ok m => .again s.countPacket (.message m)
  | .error e => .again s.countError (.event { bytes := cand, reason := e })

/-- R130, R131: steps 4 and 5. -/
def extractPass (s : State) : Pass :=
  if frameReady s then decodePass s.dropFrame (s.rxbuf.take s.expectedLen) else .stop s

/-- R128 to R132: one pass of steps 2 to 6. -/
def feedPass (s : State) : Pass :=
  match resyncByte s with
  | some b => .again s.dropHead (.event { bytes := [b], reason := .badPrefix })
  | none => extractPass (discoverLength s)

/-- R126 steps 2 to 6, at most `fuel` passes. R134: each pass that goes on removes a byte, so more passes than RXBUF
has bytes are never needed (log 16). -/
def feedLoop : Nat → State → State × List Item
  | 0, s => (s, [])
  | fuel + 1, s =>
    match feedPass s with
    | .stop t => (t, [])
    | .again t item =>
      let r := feedLoop fuel t
      (r.1, item :: r.2)

/-- R126: `feed(chunk)`: the state it leaves and the sequence it returns. -/
def feedChunk (s : State) (chunk : List Byte) : State × List Item :=
  let s1 := s.receive chunk
  feedLoop (s1.rxbuf.length + 1) s1

/-- R48: successive FEEDs, their results in one sequence. -/
def feedAll (s : State) : List (List Byte) → State × List Item
  | [] => (s, [])
  | chunk :: rest =>
    let r := feedChunk s chunk
    let r' := feedAll r.1 rest
    (r'.1, r.2 ++ r'.2)

/-- R126: FEED in a session: the returned sequence is the response. Without a well-formed REGISTRY the session has no
behaviour (R146, log 14). -/
def runFeed (chunk : List Byte) (s : State) : Result :=
  if s.cfg.WellFormed then
    let r := feedChunk s chunk
    ret (.items r.2) r.1
  else .refused .illFormedRegistry

end Sys2Proof.Machine
end

