-- ==== Sys2Proof/Machine/StreamParser.lean ====
section
/-! DEFINITION. The stream parser's operations, 45_stream_parser.md R126 and R139. -/

namespace Sys2Proof.Machine

/-- R126: `FEED chunk`. -/
def execFeed (chunk : List Byte) (s : State) : Result := runFeed chunk s

/-- R139: `STAT.READ`: SEQ and the five counters; nothing is written. -/
def execStatRead (s : State) : Result :=
  ret (.stats s.seq s.pktsSent s.bytesSent s.pktsRcvd s.bytesRcvd s.rxErrors) s

end Sys2Proof.Machine
end

