-- ==== Sys2Proof/Decode.lean ====
section
/-! DEFINITION. The request decoder (30_encoding.md R62 to R64), the decoder of the two wire formats (R52 to R55), and
the encoder of both. -/

namespace Sys2Proof

open Sys2Proof.Machine

/-- R62: the operands of an operation that takes none. -/
def takeNone (op : Byte) (i : Instr) : List Operand → Except DecodeError Instr
  | [] => .ok i
  | _ => .error (.operandShape op)

/-- One 8-bit operand. -/
def takeByte (op : Byte) (f : Byte → Instr) : List Operand → Except DecodeError Instr
  | [.byte b] => .ok (f b)
  | _ => .error (.operandShape op)

/-- One 16-bit operand. -/
def takeWord16 (op : Byte) (f : BitVec 16 → Instr) : List Operand → Except DecodeError Instr
  | [.word16 v] => .ok (f v)
  | _ => .error (.operandShape op)

/-- One 32-bit operand. -/
def takeWord32 (op : Byte) (f : BitVec 32 → Instr) : List Operand → Except DecodeError Instr
  | [.word32 v] => .ok (f v)
  | _ => .error (.operandShape op)

/-- One 64-bit operand. -/
def takeWord64 (op : Byte) (f : BitVec 64 → Instr) : List Operand → Except DecodeError Instr
  | [.word64 v] => .ok (f v)
  | _ => .error (.operandShape op)

/-- One natural number. -/
def takeNat (op : Byte) (f : Nat → Instr) : List Operand → Except DecodeError Instr
  | [.nat n] => .ok (f n)
  | _ => .error (.operandShape op)

/-- One byte sequence. -/
def takeBytes (op : Byte) (f : List Byte → Instr) : List Operand → Except DecodeError Instr
  | [.bytes S] => .ok (f S)
  | _ => .error (.operandShape op)

/-- A byte sequence and a natural number (an offset or a length). -/
def takeBytesNat (op : Byte) (f : List Byte → Nat → Instr) : List Operand → Except DecodeError Instr
  | [.bytes S, .nat n] => .ok (f S n)
  | _ => .error (.operandShape op)

/-- A layout and a value list. -/
def takeLayoutValues (op : Byte) (f : List Slot → List Value → Instr) : List Operand → Except DecodeError Instr
  | [.layout L, .values V] => .ok (f L V)
  | _ => .error (.operandShape op)

/-- A layout and a byte sequence. -/
def takeLayoutBytes (op : Byte) (f : List Slot → List Byte → Instr) : List Operand → Except DecodeError Instr
  | [.layout L, .bytes S] => .ok (f L S)
  | _ => .error (.operandShape op)

/-- A header record. -/
def takeHeader (op : Byte) (f : Header → Instr) : List Operand → Except DecodeError Instr
  | [.header h] => .ok (f h)
  | _ => .error (.operandShape op)

/-- A descriptor and a value list. -/
def takeDescriptorValues (op : Byte) (f : Descriptor → List Value → Instr) :
    List Operand → Except DecodeError Instr
  | [.descriptor d, .values V] => .ok (f d V)
  | _ => .error (.operandShape op)

/-- A descriptor and a flat sequence. -/
def takeDescriptorFlat (op : Byte) (f : Descriptor → List Pattern → Instr) :
    List Operand → Except DecodeError Instr
  | [.descriptor d, .flat T] => .ok (f d T)
  | _ => .error (.operandShape op)

/-- R63, R64: the operation of a code with its operands. Every code that R63 does not list is reserved, whatever
stands beside it (log 11). -/
def decodeOp (op : Byte) (args : List Operand) : Except DecodeError Instr :=
  match op.toNat with
  | 0x01 => takeNone op .crcInit args
  | 0x02 => takeByte op .crcByte args
  | 0x03 => takeBytes op .crcBuf args
  | 0x04 => takeByte op .crcSalt args
  | 0x05 => takeNone op .crcRead args
  | 0x10 => takeByte op .packI8 args
  | 0x11 => takeByte op .packU8 args
  | 0x12 => takeWord16 op .packI16 args
  | 0x13 => takeWord16 op .packU16 args
  | 0x14 => takeWord32 op .packI32 args
  | 0x15 => takeWord32 op .packU32 args
  | 0x16 => takeWord64 op .packI64 args
  | 0x17 => takeWord64 op .packU64 args
  | 0x18 => takeWord32 op .packF32 args
  | 0x19 => takeWord64 op .packF64 args
  | 0x1A => takeByte op .packChar args
  | 0x1F => takeLayoutValues op .packLayout args
  | 0x20 => takeBytesNat op .unpackI8 args
  | 0x21 => takeBytesNat op .unpackU8 args
  | 0x22 => takeBytesNat op .unpackI16 args
  | 0x23 => takeBytesNat op .unpackU16 args
  | 0x24 => takeBytesNat op .unpackI32 args
  | 0x25 => takeBytesNat op .unpackU32 args
  | 0x26 => takeBytesNat op .unpackI64 args
  | 0x27 => takeBytesNat op .unpackU64 args
  | 0x28 => takeBytesNat op .unpackF32 args
  | 0x29 => takeBytesNat op .unpackF64 args
  | 0x2A => takeBytesNat op .unpackChar args
  | 0x2F => takeLayoutBytes op .unpackLayout args
  | 0x30 => takeHeader op .hdrPackV1 args
  | 0x31 => takeHeader op .hdrPackV2 args
  | 0x32 => takeBytes op .hdrUnpackV1 args
  | 0x33 => takeBytes op .hdrUnpackV2 args
  | 0x40 => takeDescriptorValues op .reorderD2w args
  | 0x41 => takeBytes op .truncZ args
  | 0x42 => takeDescriptorValues op .frameEnc args
  | 0x43 => takeNat op .sessionSent args
  | 0x48 => takeBytesNat op .zpad args
  | 0x49 => takeDescriptorFlat op .reorderW2d args
  | 0x4A => takeBytes op .frameDec args
  | 0x50 => takeBytes op .feed args
  | 0x51 => takeNone op .statRead args
  | _ => .ok (.reserved op)

/-- R52, R53, R55: one V1 frame: marker 0xFE, the length byte, the header fields, the payload, the trailer. -/
def decodeFrameV1 : List Byte → Except DecodeError Instr
  | marker :: plen :: seq :: sysid :: compid :: msgid :: rest =>
    if marker = markerV1 ∧ rest.length = plen.toNat + 2 then
      .ok (.frameV1 { seq := seq, sysid := sysid, compid := compid, msgid := msgid,
                      payload := rest.take plen.toNat,
                      cksum := BitVec.ofNat 16 (unle (rest.drop plen.toNat)) })
    else .error .notAFrame
  | _ => .error .notAFrame

/-- R52, R54, R55: one V2 frame; its marker is whatever byte 0 is (R6 leaves `MARKER_V2` open). -/
def decodeFrameV2 : List Byte → Except DecodeError Instr
  | marker :: plen :: incompat :: compat :: seq :: sysid :: compid :: id0 :: id1 :: id2 :: rest =>
    if rest.length = plen.toNat + 2 then
      .ok (.frameV2 { marker := marker, incompatFlags := incompat, compatFlags := compat, seq := seq,
                      sysid := sysid, compid := compid,
                      msgid := BitVec.ofNat 24 (unle [id0, id1, id2]),
                      payload := rest.take plen.toNat,
                      cksum := BitVec.ofNat 16 (unle (rest.drop plen.toNat)) })
    else .error .notAFrame
  | _ => .error .notAFrame

/-- The decoder, total on every request. -/
def decode : Request → Except DecodeError Instr
  | .op code args => decodeOp code args
  | .frame .v1 bytes => decodeFrameV1 bytes
  | .frame .v2 bytes => decodeFrameV2 bytes

/-- R53, R55: the bytes of a V1 frame. -/
def WireV1.bytes (f : WireV1) : List Byte :=
  [markerV1, BitVec.ofNat 8 f.payload.length, f.seq, f.sysid, f.compid, f.msgid] ++ f.payload ++ le 2 f.cksum.toNat

/-- R54, R55: the bytes of a V2 frame. -/
def WireV2.bytes (f : WireV2) : List Byte :=
  [f.marker, BitVec.ofNat 8 f.payload.length, f.incompatFlags, f.compatFlags, f.seq, f.sysid, f.compid] ++
    le 3 f.msgid.toNat ++ f.payload ++ le 2 f.cksum.toNat

/-- The encoder: R63's code and operands, or the wire format's bytes. -/
def encode : Instr → Request
  | .crcInit => .op 0x01 []
  | .crcByte b => .op 0x02 [.byte b]
  | .crcBuf S => .op 0x03 [.bytes S]
  | .crcSalt b => .op 0x04 [.byte b]
  | .crcRead => .op 0x05 []
  | .packI8 v => .op 0x10 [.byte v]
  | .packU8 v => .op 0x11 [.byte v]
  | .packI16 v => .op 0x12 [.word16 v]
  | .packU16 v => .op 0x13 [.word16 v]
  | .packI32 v => .op 0x14 [.word32 v]
  | .packU32 v => .op 0x15 [.word32 v]
  | .packI64 v => .op 0x16 [.word64 v]
  | .packU64 v => .op 0x17 [.word64 v]
  | .packF32 v => .op 0x18 [.word32 v]
  | .packF64 v => .op 0x19 [.word64 v]
  | .packChar v => .op 0x1A [.byte v]
  | .packLayout L V => .op 0x1F [.layout L, .values V]
  | .unpackI8 S off => .op 0x20 [.bytes S, .nat off]
  | .unpackU8 S off => .op 0x21 [.bytes S, .nat off]
  | .unpackI16 S off => .op 0x22 [.bytes S, .nat off]
  | .unpackU16 S off => .op 0x23 [.bytes S, .nat off]
  | .unpackI32 S off => .op 0x24 [.bytes S, .nat off]
  | .unpackU32 S off => .op 0x25 [.bytes S, .nat off]
  | .unpackI64 S off => .op 0x26 [.bytes S, .nat off]
  | .unpackU64 S off => .op 0x27 [.bytes S, .nat off]
  | .unpackF32 S off => .op 0x28 [.bytes S, .nat off]
  | .unpackF64 S off => .op 0x29 [.bytes S, .nat off]
  | .unpackChar S off => .op 0x2A [.bytes S, .nat off]
  | .unpackLayout L S => .op 0x2F [.layout L, .bytes S]
  | .hdrPackV1 h => .op 0x30 [.header h]
  | .hdrPackV2 h => .op 0x31 [.header h]
  | .hdrUnpackV1 S => .op 0x32 [.bytes S]
  | .hdrUnpackV2 S => .op 0x33 [.bytes S]
  | .reorderD2w d V => .op 0x40 [.descriptor d, .values V]
  | .truncZ P => .op 0x41 [.bytes P]
  | .frameEnc d V => .op 0x42 [.descriptor d, .values V]
  | .sessionSent n => .op 0x43 [.nat n]
  | .zpad P n => .op 0x48 [.bytes P, .nat n]
  | .reorderW2d d T => .op 0x49 [.descriptor d, .flat T]
  | .frameDec C => .op 0x4A [.bytes C]
  | .feed chunk => .op 0x50 [.bytes chunk]
  | .statRead => .op 0x51 []
  | .frameV1 f => .frame .v1 f.bytes
  | .frameV2 f => .frame .v2 f.bytes
  | .reserved op => .op op []

/-- A descriptor whose every part is zero or empty (log 20). -/
def zeroDescriptor : Descriptor :=
  { id := 0, salt := 0, wire := [], declared := [], orderMap := [], instanceField := none }

/-- A header record of zeros (log 20). -/
def zeroHeader : Header :=
  { marker := 0, plen := 0, seq := 0, sysid := 0, compid := 0, msgid := 0, incompatFlags := 0, compatFlags := 0 }

/-- The operands of a code, each of the shape R63 gives it, at zero: what operand words of zeros stand for where the
table gives a row the 8 bits of its code alone (log 20). -/
def zeroOperands (op : Byte) : List Operand :=
  match op.toNat with
  | 0x02 => [.byte 0]
  | 0x03 => [.bytes []]
  | 0x04 => [.byte 0]
  | 0x10 => [.byte 0]
  | 0x11 => [.byte 0]
  | 0x12 => [.word16 0]
  | 0x13 => [.word16 0]
  | 0x14 => [.word32 0]
  | 0x15 => [.word32 0]
  | 0x16 => [.word64 0]
  | 0x17 => [.word64 0]
  | 0x18 => [.word32 0]
  | 0x19 => [.word64 0]
  | 0x1A => [.byte 0]
  | 0x1F => [.layout [], .values []]
  | 0x20 => [.bytes [], .nat 0]
  | 0x21 => [.bytes [], .nat 0]
  | 0x22 => [.bytes [], .nat 0]
  | 0x23 => [.bytes [], .nat 0]
  | 0x24 => [.bytes [], .nat 0]
  | 0x25 => [.bytes [], .nat 0]
  | 0x26 => [.bytes [], .nat 0]
  | 0x27 => [.bytes [], .nat 0]
  | 0x28 => [.bytes [], .nat 0]
  | 0x29 => [.bytes [], .nat 0]
  | 0x2A => [.bytes [], .nat 0]
  | 0x2F => [.layout [], .bytes []]
  | 0x30 => [.header zeroHeader]
  | 0x31 => [.header zeroHeader]
  | 0x32 => [.bytes []]
  | 0x33 => [.bytes []]
  | 0x40 => [.descriptor zeroDescriptor, .values []]
  | 0x41 => [.bytes []]
  | 0x42 => [.descriptor zeroDescriptor, .values []]
  | 0x43 => [.nat 0]
  | 0x48 => [.bytes [], .nat 0]
  | 0x49 => [.descriptor zeroDescriptor, .flat []]
  | 0x4A => [.bytes []]
  | 0x50 => [.bytes []]
  | _ => []

/-- The version whose wire format a table word longer than one byte stands in: first byte 0xFE is V1's marker. -/
def wireVersion (w : Nat) : Version := if w % 256 = markerV1.toNat then .v1 else .v2

/-- The request that a table word of `nbits` bits stands for: up to 8 bits an operation code with operands of zeros;
beyond, the bytes of a wire frame in increasing order, byte 0 lowest, with zeros up to the frame's length (log 20). -/
def tableRequest (nbits w : Nat) : Request :=
  if nbits ≤ 8 then .op (BitVec.ofNat 8 w) (zeroOperands (BitVec.ofNat 8 w))
  else
    let v := wireVersion w
    .frame v (le (v.headerSize + (w / 256) % 256 + 2) (w % 2 ^ nbits))

/-- The instruction the decoder reads from a table word. -/
def decodeTableWord (nbits w : Nat) : Option Instr :=
  match decode (tableRequest nbits w) with
  | .ok i => some i
  | .error _ => none

end Sys2Proof
end

