-- ==== Sys2Proof/Machine/Wire.lean ====
section
/-! DEFINITION. The table's rows that are no operations: the two wire formats (R53, R54) and the reserved codes
(R64). -/

namespace Sys2Proof.Machine

/-- R53: a V1 frame arrives on the session's stream: the host hands the parser its bytes as one chunk (R126, log 9).
In a session of version 2 they are dropped as R162 says. -/
def execFrameV1 (f : WireV1) (s : State) : Result := runFeed f.bytes s

/-- R54: a V2 frame arrives on the session's stream (R126, log 9). -/
def execFrameV2 (f : WireV2) (s : State) : Result := runFeed f.bytes s

/-- R64: "the response is `UnknownOp(OP)`, no state is written and no output is produced." -/
def execReserved (op : Byte) (s : State) : Result := raise (.unknownOp op) s

end Sys2Proof.Machine
end

