-- ==== Sys2Proof/Machine/Dispatch.lean ====
section
/-! DEFINITION. The meaning of every instruction, one arm per constructor of Instr. -/

namespace Sys2Proof.Machine

-- One direct call of its own meaning for each row of spec/opcode_table.json, in the table's order.
def exec (i : Instr) (s : State) : Host.Outcome State Fault Refusal :=
  match i with
  | .crcInit => Sys2Proof.Machine.execCrcInit s
  | .crcByte b => Sys2Proof.Machine.execCrcByte b s
  | .crcBuf bytes => Sys2Proof.Machine.execCrcBuf bytes s
  | .crcSalt salt => Sys2Proof.Machine.execCrcSalt salt s
  | .crcRead => Sys2Proof.Machine.execCrcRead s
  | .packI8 v => Sys2Proof.Machine.execPackI8 v s
  | .packU8 v => Sys2Proof.Machine.execPackU8 v s
  | .packI16 v => Sys2Proof.Machine.execPackI16 v s
  | .packU16 v => Sys2Proof.Machine.execPackU16 v s
  | .packI32 v => Sys2Proof.Machine.execPackI32 v s
  | .packU32 v => Sys2Proof.Machine.execPackU32 v s
  | .packI64 v => Sys2Proof.Machine.execPackI64 v s
  | .packU64 v => Sys2Proof.Machine.execPackU64 v s
  | .packF32 v => Sys2Proof.Machine.execPackF32 v s
  | .packF64 v => Sys2Proof.Machine.execPackF64 v s
  | .packChar v => Sys2Proof.Machine.execPackChar v s
  | .packLayout layout vals => Sys2Proof.Machine.execPackLayout layout vals s
  | .unpackI8 bytes off => Sys2Proof.Machine.execUnpackI8 bytes off s
  | .unpackU8 bytes off => Sys2Proof.Machine.execUnpackU8 bytes off s
  | .unpackI16 bytes off => Sys2Proof.Machine.execUnpackI16 bytes off s
  | .unpackU16 bytes off => Sys2Proof.Machine.execUnpackU16 bytes off s
  | .unpackI32 bytes off => Sys2Proof.Machine.execUnpackI32 bytes off s
  | .unpackU32 bytes off => Sys2Proof.Machine.execUnpackU32 bytes off s
  | .unpackI64 bytes off => Sys2Proof.Machine.execUnpackI64 bytes off s
  | .unpackU64 bytes off => Sys2Proof.Machine.execUnpackU64 bytes off s
  | .unpackF32 bytes off => Sys2Proof.Machine.execUnpackF32 bytes off s
  | .unpackF64 bytes off => Sys2Proof.Machine.execUnpackF64 bytes off s
  | .unpackChar bytes off => Sys2Proof.Machine.execUnpackChar bytes off s
  | .unpackLayout layout bytes => Sys2Proof.Machine.execUnpackLayout layout bytes s
  | .hdrPackV1 h => Sys2Proof.Machine.execHdrPackV1 h s
  | .hdrPackV2 h => Sys2Proof.Machine.execHdrPackV2 h s
  | .hdrUnpackV1 bytes => Sys2Proof.Machine.execHdrUnpackV1 bytes s
  | .hdrUnpackV2 bytes => Sys2Proof.Machine.execHdrUnpackV2 bytes s
  | .reorderD2w d vals => Sys2Proof.Machine.execReorderD2w d vals s
  | .truncZ payload => Sys2Proof.Machine.execTruncZ payload s
  | .frameEnc d vals => Sys2Proof.Machine.execFrameEnc d vals s
  | .sessionSent n => Sys2Proof.Machine.execSessionSent n s
  | .zpad payload n => Sys2Proof.Machine.execZpad payload n s
  | .reorderW2d d flat => Sys2Proof.Machine.execReorderW2d d flat s
  | .frameDec cand => Sys2Proof.Machine.execFrameDec cand s
  | .feed chunk => Sys2Proof.Machine.execFeed chunk s
  | .statRead => Sys2Proof.Machine.execStatRead s
  | .frameV1 f => Sys2Proof.Machine.execFrameV1 f s
  | .frameV2 f => Sys2Proof.Machine.execFrameV2 f s
  | .reserved op => Sys2Proof.Machine.execReserved op s

end Sys2Proof.Machine
end

