-- ==== Sys2Proof/Machine/Fetch.lean ====
section
/-! DEFINITION. The session's interface: which request is next, taking it up, and what a rejected one refuses (R47, R62,
logs 6, 8 and 10). -/

namespace Sys2Proof.Machine

/-- R47: the oldest request not yet begun. -/
def State.nextRequest (s : State) : Option Request := s.requests.head?

/-- The state once that request is taken up. -/
def State.dequeue (s : State) : State := { s with requests := s.requests.drop 1 }

/-- The host issues a request (R4, R152): it waits behind the earlier ones. -/
def State.issue (r : Request) (s : State) : State := { s with requests := s.requests ++ [r] }

/-- A request placed where `step` takes its next one. -/
def State.placeNext (r : Request) (s : State) : State := { s with requests := r :: s.requests }

/-- R151: the block is idle and keeps all state. -/
def idle (s : State) : Host.Outcome State Fault Refusal := .next s

/-- A request the decoder rejects has no meaning; it is refused by name. -/
def refuseRequest : DecodeError → Refusal
  | .operandShape code => .malformedOperands code
  | .notAFrame => .malformedFrame

end Sys2Proof.Machine
end

