-- ==== Sys2Proof/Machine/Step.lean ====
section
/-! DEFINITION. One step of a session: the request at the head of the queue is decoded and performed (R4, R47). -/

namespace Sys2Proof.Machine

/-- R4, R44, R47: one operation, begun and completed. R151, R153: with no request the block is idle (log 6). -/
def step (s : State) : Host.Outcome State Fault Refusal :=
  match s.nextRequest with
  | none => idle s
  | some r =>
    match decode r with
    | .ok i => exec i s.dequeue
    | .error e => .refused (refuseRequest e)

/-- The table word's request at the head of the queue, which is where `step` takes its next instruction. -/
def State.withFetchWord (s : State) (nbits w : Nat) : State := s.placeNext (tableRequest nbits w)

end Sys2Proof.Machine
end

