-- ==== Sys2Proof/Machine/Pseudo.lean ====
section
/-! DEFINITION. The pseudo-operations of 30_encoding.md R66: abbreviations for sequences of operations, with no code of
their own (log 24). -/

namespace Sys2Proof.Machine

/-- R66: the four pseudo-operations. -/
inductive Pseudo
  | crcUpdate (bytes : List Byte)
  | crcFrame (header payload : List Byte) (salt : Byte)
  | send (d : Descriptor) (vals : List Value)
  | decodeSteps (cand : List Byte)
deriving DecidableEq, Repr

/-- R66: the expansion of `CRC.FRAME H, P, s`. -/
def expandCrcFrame (header payload : List Byte) (salt : Byte) : List Instr :=
  [.crcInit, .crcBuf (header.drop 1), .crcBuf payload, .crcSalt salt, .crcRead]

/-- R66: `SEND d, V`: `FRAME.ENC d, V -> F`, and on success `SESSION.SENT len(F)`. -/
def expandSend (d : Descriptor) (vals : List Value) (s : State) : List Instr :=
  match encodeFrame s.cfg s.seq s.sysid s.compid d vals with
  | .ok F => [.frameEnc d vals, .sessionSent F.length]
  | .error _ => [.frameEnc d vals]

/-- R66: the zero padding of `DECODE.STEPS`, in version 2. -/
def expandPad (v : Version) (P : List Byte) (n : Nat) : List Instr :=
  match v with
  | .v1 => []
  | .v2 => [.zpad P n]

/-- R66: the leaves of `DECODE.STEPS C` after the checksum is found right. -/
def expandUnpack (c : Config) (d : Descriptor) (P : List Byte) : List Instr :=
  let full := fullPayload c.version P d.wireLen
  expandPad c.version P d.wireLen ++ .unpackLayout d.wire full ::
    match unpackLayout d.wire full with
    | .ok T => [.reorderW2d d T]
    | .error _ => []

/-- R66: `DECODE.STEPS C` once the descriptor is found. -/
def expandBody (c : Config) (d : Descriptor) (h : Header) (C : List Byte) : List Instr :=
  let P := slice C c.hs (c.hs + h.plen.toNat)
  expandCrcFrame (C.take c.hs) P d.salt ++
    if frameChecksum (C.take c.hs) P d.salt = trailer C then expandUnpack c d P else []

/-- R66: the header operation of `DECODE.STEPS`. -/
def expandHeader (v : Version) (C : List Byte) : Instr :=
  match v with
  | .v1 => .hdrUnpackV1 C
  | .v2 => .hdrUnpackV2 C

/-- R66: `DECODE.STEPS C`: the leaf sequence that `FRAME.DEC` performs as one; the checks between the leaves are no
operations, so the sequence ends where one fails. -/
def expandDecode (C : List Byte) (s : State) : List Instr :=
  expandHeader s.cfg.version C ::
    match hdrUnpack s.cfg.version C with
    | .error _ => []
    | .ok h =>
      if h.marker = s.cfg.marker ∧ (h.plen.toNat : Int) = (C.length : Int) - s.cfg.hs - 2 then
        match s.cfg.lookup h.msgid with
        | none => []
        | some d => expandBody s.cfg d h C
      else []

/-- R66: the expansion of a pseudo-operation issued in a state. -/
def expand (p : Pseudo) (s : State) : List Instr :=
  match p with
  | .crcUpdate S => [.crcBuf S]
  | .crcFrame H P salt => expandCrcFrame H P salt
  | .send d V => expandSend d V s
  | .decodeSteps C => expandDecode C s

/-- The operations of a sequence one after another, stopping at the first that has no next state (R47). -/
def runSeq : List Instr → State → Result
  | [], s => .next s
  | i :: rest, s =>
    match exec i s with
    | .next t => runSeq rest t
    | .fault f => .fault f
    | .refused r => .refused r

/-- R66: a pseudo-operation performed. -/
def runPseudo (p : Pseudo) (s : State) : Result := runSeq (expand p s) s

end Sys2Proof.Machine
end

