-- ==== Sys2Proof/Machine/Sessions.lean ====
section
/-! DEFINITION. Several sessions side by side (10_state.md R38, 60_exceptions.md R149): each has its own copy of all
state, and a step is a step of one of them (log 18). -/

namespace Sys2Proof.Machine

/-- R38, R149: session k performs one step; no other session changes. -/
def stepSession (k : Nat) (sessions : List State) : Host.Outcome (List State) Fault Refusal :=
  match sessions[k]? with
  | none => .refused .noSuchSession
  | some s =>
    match step s with
    | .next t => .next (sessions.set k t)
    | .fault f => .fault f
    | .refused r => .refused r

end Sys2Proof.Machine
end

