-- ==== Sys2Proof/Safety.lean ====
section
/-! DEFINITION. The words the statements use: an operation that only answers, the parser at rest (R135), a legal session
(R146), what one FEED may report and must account for (R125, R138), the fields of a candidate (R57). -/

namespace Sys2Proof.Machine

/-- In state `s` the instruction ends in a next state, its response is `r`, and nothing else of the state changes. -/
def Answers (i : Instr) (s : State) (r : Response) : Prop := exec i s = .next { s with response := some r }

/-- R135 (a) to (c): the receive buffer and the cursor between operations. -/
def State.ParserAtRest (s : State) : Prop :=
  (s.rxbuf = [] ∨ s.rxbuf.head? = some s.cfg.marker) ∧
  (s.rxbuf.length < 2 → s.expectedLen = s.cfg.hs) ∧
  (∀ plen : Byte, s.rxbuf[1]? = some plen →
    s.expectedLen = plen.toNat + s.cfg.hs + 2 ∧ s.rxbuf.length < s.expectedLen)

/-- R146: the session was constructed with a well-formed REGISTRY, and its parser is at rest. -/
def State.Legal (s : State) : Prop := s.cfg.WellFormed ∧ s.ParserAtRest

/-- R138: the bytes a result of FEED accounts for: those of an event, or the frame a Message was decoded from. -/
def AccountsFor (c : Config) (item : Item) (seg : List Byte) : Prop :=
  match item with
  | .event e => e.bytes = seg
  | .message m => decodeFrame c seg = .ok m

/-- R138: is the result a Message? -/
def Item.isMessage : Item → Bool
  | .message _ => true
  | .event _ => false

/-- R138: the number of Messages in a result of FEED. -/
def messagesIn (out : List Item) : Nat := out.countP Item.isMessage

/-- R138: the number of MalformedDataEvents in a result of FEED. -/
def eventsIn (out : List Item) : Nat := out.countP fun x => !x.isMessage

/-- R125, R128: what an event of FEED can report. -/
def FeedMayReport (c : Config) (e : Event) : Prop :=
  match e.reason with
  | .badPrefix => ∃ b, e.bytes = [b] ∧ b ≠ c.marker
  | .unknownMessageId _ => True
  | .checksumMismatch _ _ => True
  | .truncatedPayload => c.version = .v1
  | _ => False

/-- R113: the values of `V` stand in wire order in `W`. -/
def InWireOrder (d : Descriptor) (V W : List Value) : Prop :=
  W.length = V.length ∧ ∀ i w : Nat, d.orderMap[i]? = some w → W[w]? = V[i]?

/-- R57: byte i of a candidate. -/
def byteAt (C : List Byte) (i : Nat) : Nat := (C.getD i 0).toNat

/-- R57: the message id of a candidate, byte 5 in V1, bytes 7 to 9 in V2. -/
def candidateId (v : Version) (C : List Byte) : MsgId :=
  match v with
  | .v1 => BitVec.ofNat 24 (byteAt C 5)
  | .v2 => BitVec.ofNat 24 (byteAt C 7 + 256 * byteAt C 8 + 65536 * byteAt C 9)

/-- R57: the payload of a candidate. -/
def candidatePayload (v : Version) (C : List Byte) : List Byte := (C.drop v.headerSize).take (byteAt C 1)

/-- R57: the checksum a candidate carries. -/
def candidateCksum (C : List Byte) : Word16 :=
  BitVec.ofNat 16 (byteAt C (C.length - 2) + 256 * byteAt C (C.length - 1))

/-- R69: the checksum of a header and a payload, written as one fold over the covered bytes. -/
def coveredChecksum (H P : List Byte) (salt : Byte) : Word16 :=
  crcStep ((H.drop 1 ++ P).foldl crcStep 0xFFFF) salt

/-- R53, R54: the header bytes FRAME.ENC writes for a payload of n bytes. -/
def sentHeader (s : State) (d : Descriptor) (n : Nat) : List Byte :=
  match s.cfg.version with
  | .v1 => [0xFE, BitVec.ofNat 8 n, s.seq, s.sysid, s.compid, d.id.extractLsb' 0 8]
  | .v2 => [s.cfg.markerV2, BitVec.ofNat 8 n, 0, 0, s.seq, s.sysid, s.compid,
            d.id.extractLsb' 0 8, d.id.extractLsb' 8 8, d.id.extractLsb' 16 8]

/-- C4: the positions of a frame whose corruption an earlier step than the checksum reports: the marker, the length
byte and the message id. -/
def isEarlyByte (v : Version) (i : Nat) : Bool :=
  match v with
  | .v1 => i == 0 || i == 1 || i == 5
  | .v2 => i == 0 || i == 1 || i == 7 || i == 8 || i == 9

end Sys2Proof.Machine
end

