-- ==== Sys2Proof/Certificates/Slice0/Obligations.lean ====
section
/-! DEFINITION. The statements about the CRC-16 framer, for the provers. Wherever one says that the response of an
operation stands in the field `response`, that place is the model's (log 7); what the response is, is the rule's. -/

open Sys2Proof Sys2Proof.Machine

/-! ## Parameters and reset -/

/-- R7: HS; with R8's frame sizes, which the spec marks as derived, and the marker of R6. -/
def Obligations.HeaderSizeFollowsTheVersion : Prop :=
  ∀ c : Config,
    (c.version = .v1 → c.hs = 6 ∧ c.minFrame = 8 ∧ c.maxFrame = 263 ∧ c.marker = 0xFE) ∧
    (c.version = .v2 → c.hs = 10 ∧ c.minFrame = 12 ∧ c.maxFrame = 267 ∧ c.marker = c.markerV2)

/-- R37: every register after reset, for every choice of the construction parameters. -/
def Obligations.ResetValuesOfEveryRegister : Prop :=
  ∀ (c : Config) (sysid0 compid0 : Byte),
    let s := State.construct c sysid0 compid0
    s.crc = 0xFFFF ∧ s.seq = 0 ∧ s.sysid = sysid0 ∧ s.compid = compid0 ∧ s.rxbuf = [] ∧ s.expectedLen = c.hs ∧
      s.pktsSent = 0 ∧ s.bytesSent = 0 ∧ s.pktsRcvd = 0 ∧ s.bytesRcvd = 0 ∧ s.rxErrors = 0 ∧ s.cfg = c

/-- The invariant of `StepKeepsSessionsLegal` holds after reset, for every well-formed configuration, and at
`State.reset` (whose empty REGISTRY is the model's choice, log 4). -/
def Obligations.ResetIsLegal : Prop :=
  (∀ (c : Config) (sysid0 compid0 : Byte), c.WellFormed → (State.construct c sysid0 compid0).Legal) ∧
  State.reset.Legal

/-! ## The checksum generator -/

/-- R73, R76, R77: the seed; the salt step, "exactly what `CRC.BYTE s` computes"; the read with no transformation. -/
def Obligations.CrcInitSaltAndRead : Prop :=
  ∀ (s : State) (salt : Byte),
    exec .crcInit s = .next { s with crc := 0xFFFF, response := some .done } ∧
    exec (.crcSalt salt) s = .next { s with crc := crcStep s.crc salt, response := some .done } ∧
    exec (.crcSalt salt) s = exec (.crcByte salt) s ∧
    Answers .crcRead s (.crc s.crc)

/-- R74 with R67: the three shift-and-xor equations on unbounded integers, with the masks the rule writes. -/
def Obligations.CrcByteAppliesTheShiftEquations : Prop :=
  ∀ (s : State) (b : Byte),
    let state := s.crc.toNat
    let t1 := (b.toNat ^^^ (state &&& 0xFF)) &&& 0xFF
    let t2 := (t1 ^^^ (t1 <<< 4)) &&& 0xFF
    exec (.crcByte b) s = .next { s with
      crc := BitVec.ofNat 16 (((state >>> 8) ^^^ (t2 <<< 8) ^^^ (t2 <<< 3) ^^^ (t2 >>> 4)) &&& 0xFFFF)
      response := some .done }

/-- R75 with R68: the bytes fold in increasing index order; pieces fold as the whole; a non-empty sequence is
`len(S)` operations `CRC.BYTE`. -/
def Obligations.CrcBufFoldsItsBytesInOrder : Prop :=
  (∀ (s : State) (S : List Byte),
    exec (.crcBuf S) s = .next { s with crc := S.foldl crcStep s.crc, response := some .done }) ∧
  (∀ (s t : State) (S T : List Byte),
    exec (.crcBuf S) s = .next t → exec (.crcBuf T) t = exec (.crcBuf (S ++ T)) s) ∧
  (∀ (s : State) (S : List Byte), S ≠ [] → runSeq (S.map Instr.crcByte) s = exec (.crcBuf S) s)

/-- The table and the bitwise form of 40_checksum.md, which the spec marks as derived: the 256 entries are the steps of
the zero state, and the table step and the eight rounds at POLY = 0x8408 are the shift step for every state and byte. -/
def Obligations.TableAndBitwiseFormsAgree : Prop :=
  crcTable.length = 256 ∧
  (∀ b : Byte, crcTable[b.toNat]? = some (crcStep 0 b)) ∧
  (∀ (state : Word16) (b : Byte), crcTableStep state b = crcStep state b) ∧
  (∀ (state : Word16) (b : Byte), crcBitwise state b 0x8408 = crcStep state b)

/-- 40_checksum.md, properties the spec marks as derived: linearity, and a byte step is injective in the byte and a
bijection in the state. -/
def Obligations.CrcStepIsLinearAndInjective : Prop :=
  (∀ (s1 s2 : Word16) (b1 b2 : Byte), crcStep (s1 ^^^ s2) (b1 ^^^ b2) = crcStep s1 b1 ^^^ crcStep s2 b2) ∧
  (∀ b : Byte, Function.Bijective fun state => crcStep state b) ∧
  (∀ state : Word16, Function.Injective fun b => crcStep state b)

/-- 40_checksum.md, a property the spec marks as derived: covered sequences that differ in exactly one byte always have
different checksums. -/
def Obligations.OneChangedByteAlwaysChangesTheCrc : Prop :=
  ∀ (state : Word16) (before after : List Byte) (x y : Byte), x ≠ y →
    crcFold state (before ++ x :: after) ≠ crcFold state (before ++ y :: after)

/-! ## The scalar codec -/

/-- R80 to R90: the eleven element packs. -/
def Obligations.PackReturnsTheLittleEndianBytes : Prop :=
  ∀ (s : State) (v8 : BitVec 8) (v16 : BitVec 16) (v32 : BitVec 32) (v64 : BitVec 64),
    let two := [v16.extractLsb' 0 8, v16.extractLsb' 8 8]
    let four := [v32.extractLsb' 0 8, v32.extractLsb' 8 8, v32.extractLsb' 16 8, v32.extractLsb' 24 8]
    let eight := [v64.extractLsb' 0 8, v64.extractLsb' 8 8, v64.extractLsb' 16 8, v64.extractLsb' 24 8,
                  v64.extractLsb' 32 8, v64.extractLsb' 40 8, v64.extractLsb' 48 8, v64.extractLsb' 56 8]
    Answers (.packI8 v8) s (.bytes [v8]) ∧ Answers (.packU8 v8) s (.bytes [v8]) ∧
    Answers (.packI16 v16) s (.bytes two) ∧ Answers (.packU16 v16) s (.bytes two) ∧
    Answers (.packI32 v32) s (.bytes four) ∧ Answers (.packU32 v32) s (.bytes four) ∧
    Answers (.packI64 v64) s (.bytes eight) ∧ Answers (.packU64 v64) s (.bytes eight) ∧
    Answers (.packF32 v32) s (.bytes four) ∧ Answers (.packF64 v64) s (.bytes eight) ∧
    Answers (.packChar v8) s (.bytes [v8])

/-- R91 to R94, R101: the one-byte and two-byte kinds. -/
def Obligations.UnpackShortKinds : Prop :=
  ∀ (s : State) (S : List Byte) (off : Nat),
    (∀ (b : Byte) (rest : List Byte), S.drop off = b :: rest →
      Answers (.unpackI8 S off) s (.pattern (.b8 b)) ∧ Answers (.unpackU8 S off) s (.pattern (.b8 b)) ∧
      Answers (.unpackChar S off) s (.pattern (.b8 b))) ∧
    (S.length < off + 1 →
      Answers (.unpackI8 S off) s (.error .truncatedPayload) ∧
      Answers (.unpackU8 S off) s (.error .truncatedPayload) ∧
      Answers (.unpackChar S off) s (.error .truncatedPayload)) ∧
    (∀ (b0 b1 : Byte) (rest : List Byte), S.drop off = b0 :: b1 :: rest →
      let v : BitVec 16 := BitVec.ofNat 16 (b0.toNat + 256 * b1.toNat)
      Answers (.unpackI16 S off) s (.pattern (.b16 v)) ∧ Answers (.unpackU16 S off) s (.pattern (.b16 v))) ∧
    (S.length < off + 2 →
      Answers (.unpackI16 S off) s (.error .truncatedPayload) ∧
      Answers (.unpackU16 S off) s (.error .truncatedPayload))

/-- R95 to R100: the four-byte and eight-byte kinds. -/
def Obligations.UnpackLongKinds : Prop :=
  ∀ (s : State) (S : List Byte) (off : Nat),
    (∀ (b0 b1 b2 b3 : Byte) (rest : List Byte), S.drop off = b0 :: b1 :: b2 :: b3 :: rest →
      let v : BitVec 32 := b3 ++ b2 ++ b1 ++ b0
      Answers (.unpackI32 S off) s (.pattern (.b32 v)) ∧ Answers (.unpackU32 S off) s (.pattern (.b32 v)) ∧
      Answers (.unpackF32 S off) s (.pattern (.b32 v))) ∧
    (S.length < off + 4 →
      Answers (.unpackI32 S off) s (.error .truncatedPayload) ∧
      Answers (.unpackU32 S off) s (.error .truncatedPayload) ∧
      Answers (.unpackF32 S off) s (.error .truncatedPayload)) ∧
    (∀ (b0 b1 b2 b3 b4 b5 b6 b7 : Byte) (rest : List Byte),
      S.drop off = b0 :: b1 :: b2 :: b3 :: b4 :: b5 :: b6 :: b7 :: rest →
      let v : BitVec 64 := b7 ++ b6 ++ b5 ++ b4 ++ b3 ++ b2 ++ b1 ++ b0
      Answers (.unpackI64 S off) s (.pattern (.b64 v)) ∧ Answers (.unpackU64 S off) s (.pattern (.b64 v)) ∧
      Answers (.unpackF64 S off) s (.pattern (.b64 v))) ∧
    (S.length < off + 8 →
      Answers (.unpackI64 S off) s (.error .truncatedPayload) ∧
      Answers (.unpackU64 S off) s (.error .truncatedPayload) ∧
      Answers (.unpackF64 S off) s (.error .truncatedPayload))

/-- R104: a value list that fits packs to its elements' bytes in order, `sum of fc * size` of them; a wrong count, a
scalar for an array, an array for a scalar or a wrong array length is `ValueShape`. -/
def Obligations.PackLayoutConcatenatesOrRefuses : Prop :=
  ∀ (s : State) (L : List Slot) (V : List Value),
    (fitsLayout L V = true →
      Answers (.packLayout L V) s (.bytes ((flatten V).flatMap packPattern)) ∧
      ((flatten V).flatMap packPattern).length = (L.map fun sl => sl.fc * sl.kind.size).sum) ∧
    (V.length ≠ L.length ∨ (∃ p ∈ L.zip V, shapeFits p.1 p.2 = false) →
      Answers (.packLayout L V) s (.error .valueShape))

/-- R105: the flat sequence is the one whose elements have the layout's widths and pack to the first bytes of `S`;
surplus bytes are not read; fewer bytes than the layout's size are `TruncatedPayload`. -/
def Obligations.UnpackLayoutReadsTheFlatSequence : Prop :=
  ∀ (s : State) (L : List Slot) (S : List Byte),
    let size := (L.map fun sl => sl.fc * sl.kind.size).sum
    (size ≤ S.length → ∃ T : List Pattern,
      Answers (.unpackLayout L S) s (.flat T) ∧
      T.map Pattern.size = L.flatMap (fun sl => List.replicate sl.fc sl.kind.size) ∧
      T.flatMap packPattern = S.take size) ∧
    (S.length < size → Answers (.unpackLayout L S) s (.error .truncatedPayload))

/-- 41_scalar_codec.md, laws the spec marks as derived: unpacking what was packed gives the flat spreading, and packing
what was unpacked and grouped gives the bytes. -/
def Obligations.LayoutPackAndUnpackAreInverse : Prop :=
  (∀ (s : State) (L : List Slot) (V : List Value), fitsLayout L V = true →
    ∃ P : List Byte, Answers (.packLayout L V) s (.bytes P) ∧ Answers (.unpackLayout L P) s (.flat (flatten V))) ∧
  (∀ (s : State) (L : List Slot) (S : List Byte), S.length = layoutLen L →
    ∃ T : List Pattern, Answers (.unpackLayout L S) s (.flat T) ∧ Answers (.packLayout L (group L T)) s (.bytes S))

/-! ## The header codec -/

/-- R107, R108. -/
def Obligations.HeaderPackLaysOutItsFields : Prop :=
  ∀ (s : State) (h : Header),
    (h.msgid.toNat ≤ 255 → Answers (.hdrPackV1 h) s
      (.bytes [h.marker, h.plen, h.seq, h.sysid, h.compid, h.msgid.extractLsb' 0 8])) ∧
    (255 < h.msgid.toNat → Answers (.hdrPackV1 h) s (.error (.messageIdRange h.msgid))) ∧
    Answers (.hdrPackV2 h) s
      (.bytes [h.marker, h.plen, h.incompatFlags, h.compatFlags, h.seq, h.sysid, h.compid,
               h.msgid.extractLsb' 0 8, h.msgid.extractLsb' 8 8, h.msgid.extractLsb' 16 8])

/-- R109, R110. -/
def Obligations.HeaderUnpackReadsItsFields : Prop :=
  (∀ (s : State) (b0 b1 b2 b3 b4 b5 : Byte) (rest : List Byte),
    Answers (.hdrUnpackV1 (b0 :: b1 :: b2 :: b3 :: b4 :: b5 :: rest)) s
      (.header { marker := b0, plen := b1, seq := b2, sysid := b3, compid := b4, msgid := b5.setWidth 24,
                 incompatFlags := 0, compatFlags := 0 })) ∧
  (∀ (s : State) (S : List Byte), S.length < 6 → Answers (.hdrUnpackV1 S) s (.error .headerUnderrun)) ∧
  (∀ (s : State) (b0 b1 b2 b3 b4 b5 b6 b7 b8 b9 : Byte) (rest : List Byte),
    Answers (.hdrUnpackV2 (b0 :: b1 :: b2 :: b3 :: b4 :: b5 :: b6 :: b7 :: b8 :: b9 :: rest)) s
      (.header { marker := b0, plen := b1, incompatFlags := b2, compatFlags := b3, seq := b4, sysid := b5,
                 compid := b6, msgid := BitVec.ofNat 24 (b7.toNat + 256 * b8.toNat + 65536 * b9.toNat) })) ∧
  (∀ (s : State) (S : List Byte), S.length < 10 → Answers (.hdrUnpackV2 S) s (.error .headerUnderrun))

/-- 42_header_codec.md, the inverse laws, which the spec marks as derived. -/
def Obligations.HeaderPackAndUnpackAreInverse : Prop :=
  (∀ (s : State) (h : Header), h.msgid.toNat ≤ 255 →
    ∃ B : List Byte, Answers (.hdrPackV1 h) s (.bytes B) ∧
      Answers (.hdrUnpackV1 B) s (.header { h with incompatFlags := 0, compatFlags := 0 })) ∧
  (∀ (s : State) (h : Header),
    ∃ B : List Byte, Answers (.hdrPackV2 h) s (.bytes B) ∧ Answers (.hdrUnpackV2 B) s (.header h)) ∧
  (∀ (s : State) (B : List Byte), B.length = 6 →
    ∃ h : Header, Answers (.hdrUnpackV1 B) s (.header h) ∧ Answers (.hdrPackV1 h) s (.bytes B)) ∧
  (∀ (s : State) (B : List Byte), B.length = 10 →
    ∃ h : Header, Answers (.hdrUnpackV2 B) s (.header h) ∧ Answers (.hdrPackV2 h) s (.bytes B))

/-! ## The framer, encode side -/

/-- R113: declared value i goes to wire place `order_map[i]`. -/
def Obligations.ReorderPutsValuesInWireOrder : Prop :=
  ∀ (s : State) (d : Descriptor) (V : List Value), d.WellFormed →
    (V.length = d.declared.length →
      ∃ W : List Value, Answers (.reorderD2w d V) s (.values W) ∧ InWireOrder d V W) ∧
    (V.length ≠ d.declared.length → Answers (.reorderD2w d V) s (.error .valueShape))

/-- R114: what is left is `P` without trailing zeros, never below length 1 (an empty `P` stays empty), and a second
truncation changes nothing. -/
def Obligations.TruncationStripsTrailingZeros : Prop :=
  ∀ (s : State) (P : List Byte), ∃ (P' : List Byte) (z : Nat),
    Answers (.truncZ P) s (.bytes P') ∧ P = P' ++ List.replicate z 0 ∧ (P ≠ [] → P' ≠ []) ∧
    (1 < P'.length → P'.getLast? ≠ some 0) ∧ Answers (.truncZ P') s (.bytes P')

/-- R115: the frame, or the first error in the rule's order. `W` is the value list in wire order, `P` its bytes, less
trailing zeros in version 2. -/
def Obligations.FrameEncBuildsTheFrameOrRefuses : Prop :=
  ∀ (s : State) (d : Descriptor) (V : List Value), d.WellFormed →
    (V.length ≠ d.declared.length → Answers (.frameEnc d V) s (.error .valueShape)) ∧
    ∀ W : List Value, V.length = d.declared.length → InWireOrder d V W →
      ((∃ p ∈ d.wire.zip W, shapeFits p.1 p.2 = false) → Answers (.frameEnc d V) s (.error .valueShape)) ∧
      (fitsLayout d.wire W = true →
        let Q := (flatten W).flatMap packPattern
        let P := if s.cfg.version = .v2 then truncZ Q else Q
        (255 < P.length → Answers (.frameEnc d V) s (.error (.payloadTooLong P.length))) ∧
        (P.length ≤ 255 → s.cfg.version = .v1 → 255 < d.id.toNat →
          Answers (.frameEnc d V) s (.error (.messageIdRange d.id))) ∧
        (P.length ≤ 255 → (s.cfg.version = .v1 → d.id.toNat ≤ 255) →
          let H := sentHeader s d P.length
          let c := coveredChecksum H P d.salt
          Answers (.frameEnc d V) s (.bytes (H ++ P ++ [c.extractLsb' 0 8, c.extractLsb' 8 8]))))

/-- R117. -/
def Obligations.SessionSentAdvancesTheSendRegisters : Prop :=
  ∀ (s : State) (n : Nat), exec (.sessionSent n) s = .next { s with
    seq := BitVec.ofNat 8 ((s.seq.toNat + 1) % 256)
    pktsSent := s.pktsSent + 1
    bytesSent := s.bytesSent + n
    response := some .done }

/-- 43_framer_encode.md, facts the spec marks as derived: of every frame FRAME.ENC returns, its marker, its length
byte, its length, its trailer, and in version 2 its last payload byte. -/
def Obligations.EncodedFramesHaveTheWireShape : Prop :=
  ∀ (s : State) (d : Descriptor) (V : List Value) (F : List Byte), Answers (.frameEnc d V) s (.bytes F) →
    let n := F.length - s.cfg.hs - 2
    s.cfg.hs + 2 ≤ F.length ∧ F.length ≤ s.cfg.hs + 257 ∧
    F[0]? = some s.cfg.marker ∧ F[1]? = some (BitVec.ofNat 8 n) ∧
    candidateCksum F = coveredChecksum (F.take s.cfg.hs) ((F.drop s.cfg.hs).take n) d.salt ∧
    (s.cfg.version = .v2 → 1 < n → F[F.length - 3]? ≠ some 0)

/-! ## The framer, decode side -/

/-- R119. -/
def Obligations.ZeroPadExtendsShortPayloads : Prop :=
  ∀ (s : State) (P : List Byte) (n : Nat),
    (P.length < n → Answers (.zpad P n) s (.bytes (P ++ List.replicate (n - P.length) 0))) ∧
    (n ≤ P.length → Answers (.zpad P n) s (.bytes P))

/-- 44_framer_decode.md, a law the spec marks as derived: padding to the old length undoes truncation. -/
def Obligations.ZeroPadUndoesTruncation : Prop :=
  ∀ (s : State) (Q : List Byte), ∃ P : List Byte,
    Answers (.truncZ Q) s (.bytes P) ∧ Answers (.zpad P Q.length) s (.bytes Q)

/-- R120: declared field i is wire slot `order_map[i]`, an array gathered from consecutive flat elements; the flat
index counts elements. -/
def Obligations.ReorderGathersDeclaredValues : Prop :=
  ∀ (s : State) (d : Descriptor) (T : List Pattern), d.WellFormed →
    (T.length = d.flatLen → ∃ V : List Value,
      Answers (.reorderW2d d T) s (.values V) ∧ V.length = d.declared.length ∧
      ∀ (i w : Nat) (sl : Slot), d.orderMap[i]? = some w → d.wire[w]? = some sl →
        let tip := ((d.wire.take w).map Slot.fc).sum
        (sl.alen = 0 → V[i]? = (T[tip]?).map Value.scalar) ∧
        (sl.alen ≠ 0 → V[i]? = some (.array ((T.drop tip).take sl.alen)))) ∧
    (T.length ≠ d.flatLen → Answers (.reorderW2d d T) s (.error .valueShape))

/-- 44_framer_decode.md, a law the spec marks as derived: reordering back what was reordered and spread flat gives the
declared values. -/
def Obligations.ReorderingsAreInverse : Prop :=
  ∀ (s : State) (d : Descriptor) (V W : List Value), d.WellFormed → V.length = d.declared.length →
    Answers (.reorderD2w d V) s (.values W) → fitsLayout d.wire W = true →
      Answers (.reorderW2d d (flatten W)) s (.values V)

/-- R122: the steps in order, each with its own failure; the checksum is over the payload as received; surplus payload
is accepted. -/
def Obligations.FrameDecRunsItsStepsInOrder : Prop :=
  ∀ (s : State) (C : List Byte), s.cfg.WellFormed →
    let actual : Int := (C.length : Int) - s.cfg.hs - 2
    (C.length < s.cfg.hs → Answers (.frameDec C) s (.error .headerUnderrun)) ∧
    (s.cfg.hs ≤ C.length → byteAt C 0 ≠ s.cfg.marker.toNat →
      Answers (.frameDec C) s (.error (.badMarker (C.getD 0 0)))) ∧
    (s.cfg.hs ≤ C.length → byteAt C 0 = s.cfg.marker.toNat → (byteAt C 1 : Int) ≠ actual →
      Answers (.frameDec C) s (.error (.lengthMismatch (C.getD 1 0) actual))) ∧
    (s.cfg.hs ≤ C.length → byteAt C 0 = s.cfg.marker.toNat → (byteAt C 1 : Int) = actual →
      let id := candidateId s.cfg.version C
      let P := candidatePayload s.cfg.version C
      (s.cfg.lookup id = none → Answers (.frameDec C) s (.error (.unknownMessageId id))) ∧
      (∀ d : Descriptor, s.cfg.lookup id = some d →
        let expected := coveredChecksum (C.take s.cfg.hs) P d.salt
        let full := if s.cfg.version = .v2 then P ++ List.replicate (d.wireLen - P.length) 0 else P
        (expected ≠ candidateCksum C →
          Answers (.frameDec C) s (.error (.checksumMismatch expected (candidateCksum C)))) ∧
        (expected = candidateCksum C → full.length < d.wireLen →
          Answers (.frameDec C) s (.error .truncatedPayload)) ∧
        (expected = candidateCksum C → d.wireLen ≤ full.length → ∃ (T : List Pattern) (V : List Value),
          Answers (.unpackLayout d.wire full) s (.flat T) ∧ Answers (.reorderW2d d T) s (.values V) ∧
          Answers (.frameDec C) s (.message { id := id, values := V }))))

/-- R116, R123: neither operation writes state; FRAME.ENC again returns the same response, at once and after any
operations that are no SESSION.SENT. -/
def Obligations.FrameOperationsWriteNoState : Prop :=
  (∀ (s t : State) (d : Descriptor) (V : List Value), exec (.frameEnc d V) s = .next t →
    t = { s with response := t.response } ∧ exec (.frameEnc d V) t = .next t) ∧
  (∀ (s t u : State) (d : Descriptor) (V : List Value) (between : List Instr), exec (.frameEnc d V) s = .next t →
    (∀ i ∈ between, ∀ n : Nat, i ≠ .sessionSent n) → runSeq between t = .next u →
      exec (.frameEnc d V) u = .next { u with response := t.response }) ∧
  (∀ (s t : State) (C : List Byte), exec (.frameDec C) s = .next t → t = { s with response := t.response })

/-- The round-trip law of 44_framer_decode.md, which the spec marks as derived: what a session encodes, any session of
the same version and marker that registers the descriptor decodes to the same values, in both versions, truncation and
padding included. -/
def Obligations.EncodedFramesDecodeToTheirValues : Prop :=
  ∀ (sender receiver : State) (d : Descriptor) (V : List Value) (F : List Byte),
    receiver.cfg.WellFormed → receiver.cfg.lookup d.id = some d →
    receiver.cfg.version = sender.cfg.version → receiver.cfg.marker = sender.cfg.marker →
    Answers (.frameEnc d V) sender (.bytes F) →
      Answers (.frameDec F) receiver (.message { id := d.id, values := V })

/-- 90_conflicts.md C4, "The model's theorem is therefore": a frame of FRAME.ENC with one byte changed, outside the
trailer and other than the marker, the length and the id, is refused with ChecksumMismatch (a flipped bit is a changed
byte). -/
def Obligations.OneCorruptedByteIsAChecksumMismatch : Prop :=
  ∀ (sender receiver : State) (d : Descriptor) (V : List Value) (F : List Byte) (i : Nat) (b : Byte),
    receiver.cfg.WellFormed → receiver.cfg.lookup d.id = some d →
    receiver.cfg.version = sender.cfg.version → receiver.cfg.marker = sender.cfg.marker →
    Answers (.frameEnc d V) sender (.bytes F) →
    i + 2 < F.length → isEarlyByte receiver.cfg.version i = false → F[i]? ≠ some b →
      ∃ expected received : Word16, expected ≠ received ∧
        Answers (.frameDec (F.set i b)) receiver (.error (.checksumMismatch expected received))

/-- 90_conflicts.md C4: for a changed marker or length byte, decode still fails, with the error of the earlier step. -/
def Obligations.CorruptedMarkerOrLengthIsReportedFirst : Prop :=
  ∀ (sender receiver : State) (d : Descriptor) (V : List Value) (F : List Byte) (b : Byte),
    receiver.cfg.WellFormed → receiver.cfg.version = sender.cfg.version → receiver.cfg.marker = sender.cfg.marker →
    Answers (.frameEnc d V) sender (.bytes F) →
      (F[0]? ≠ some b → Answers (.frameDec (F.set 0 b)) receiver (.error (.badMarker b))) ∧
      (F[1]? ≠ some b → Answers (.frameDec (F.set 1 b)) receiver
        (.error (.lengthMismatch b ((F.length : Int) - receiver.cfg.hs - 2))))

/-! ## The stream parser -/

/-- FEED never fails, and its counters and results agree (45_stream_parser.md, counter laws, which the spec marks as
derived): the frame of FEED. -/
def Obligations.FeedCompletesAndCountsItsResults : Prop :=
  ∀ (s : State) (chunk : List Byte), s.cfg.WellFormed →
    ∃ (rx : List Byte) (el : Nat) (out : List Item), exec (.feed chunk) s = .next { s with
      rxbuf := rx
      expectedLen := el
      bytesRcvd := s.bytesRcvd + chunk.length
      pktsRcvd := s.pktsRcvd + messagesIn out
      rxErrors := s.rxErrors + eventsIn out
      response := some (.items out) }

/-- R127: the whole chunk is appended and counted before any parsing. -/
def Obligations.FeedAppendsTheChunkFirst : Prop :=
  ∀ (s : State) (chunk : List Byte),
    exec (.feed chunk) s =
      exec (.feed []) { s with rxbuf := s.rxbuf ++ chunk, bytesRcvd := s.bytesRcvd + chunk.length }

/-- R128: one byte that is not the marker is removed, gives one BadPrefix event and one error, and the loop goes on
behind it. -/
def Obligations.ResyncDropsOneByteAtATime : Prop :=
  ∀ (s t : State) (b : Byte) (rest : List Byte) (out : List Item),
    s.rxbuf = b :: rest → b ≠ s.cfg.marker →
    exec (.feed []) { s with rxbuf := rest, expectedLen := s.cfg.hs, rxErrors := s.rxErrors + 1 } = .next t →
    t.response = some (.items out) →
      exec (.feed []) s =
        .next { t with response := some (.items (.event { bytes := [b], reason := .badPrefix } :: out)) }

/-- R129 and the waiting half of step 4: with the marker at the head and fewer bytes than the length byte asks for, FEED
writes EXPECTED_LEN and stops; with one byte, the marker, or none, it stops. -/
def Obligations.FeedWaitsForTheRestOfAFrame : Prop :=
  ∀ s : State, s.cfg.WellFormed →
    (∀ (plen : Byte) (rest : List Byte), s.rxbuf = s.cfg.marker :: plen :: rest →
      s.rxbuf.length < plen.toNat + s.cfg.hs + 2 →
        exec (.feed []) s =
          .next { s with expectedLen := plen.toNat + s.cfg.hs + 2, response := some (.items []) }) ∧
    (s.rxbuf = [] ∨ s.rxbuf = [s.cfg.marker] → s.expectedLen = s.cfg.hs →
        exec (.feed []) s = .next { s with response := some (.items []) })

/-- R131 with the cutting half of R130: a complete candidate leaves the buffer whole, its decode is the next result, and
the loop goes on behind it. -/
def Obligations.FeedCutsAndDecodesACandidate : Prop :=
  ∀ (s t : State) (plen : Byte) (body rest : List Byte) (out : List Item),
    let cand := s.cfg.marker :: plen :: body
    s.rxbuf = cand ++ rest → cand.length = plen.toNat + s.cfg.hs + 2 → t.response = some (.items out) →
    (∀ m : Message, Answers (.frameDec cand) s (.message m) →
      exec (.feed []) { s with rxbuf := rest, expectedLen := s.cfg.hs, pktsRcvd := s.pktsRcvd + 1 } = .next t →
        exec (.feed []) s = .next { t with response := some (.items (.message m :: out)) }) ∧
    (∀ e : Err, Answers (.frameDec cand) s (.error e) →
      exec (.feed []) { s with rxbuf := rest, expectedLen := s.cfg.hs, rxErrors := s.rxErrors + 1 } = .next t →
        exec (.feed []) s =
          .next { t with response := some (.items (.event { bytes := cand, reason := e } :: out)) })

/-- 45_stream_parser.md, a fact the spec marks as derived: feeding nothing to a parser at rest changes nothing. -/
def Obligations.FeedingNothingAtRestChangesNothing : Prop :=
  ∀ s : State, s.Legal → Answers (.feed []) s (.items [])

/-- 45_stream_parser.md, a fact the spec marks as derived: FEED ends; the loop's bound never cuts it short (log 16). -/
def Obligations.FeedLoopEndsWithinItsBuffer : Prop :=
  ∀ (s : State) (fuel : Nat), s.rxbuf.length < fuel →
    feedLoop fuel s = feedLoop (s.rxbuf.length + 1) s ∧
    ∃ u : State, feedPass (feedLoop fuel s).1 = .stop u

/-- The invariant of 45_stream_parser.md, "Invariant between operations", which the spec marks as derived: in every
state with a well-formed REGISTRY and the parser at rest, whatever step follows, both hold again, and RXBUF stays
below MAXFRAME. -/
def Obligations.StepKeepsSessionsLegal : Prop :=
  ∀ s t : State, s.Legal → step s = .next t → t.Legal ∧ t.rxbuf.length < t.cfg.maxFrame

/-- Fragmentation independence, 45_stream_parser.md (the general form is marked derived): a stream fed in any pieces
gives the same results in the same order and the same final state as fed whole; and FEED is that function. -/
def Obligations.FragmentationDoesNotMatter : Prop :=
  (∀ (s : State) (chunks : List (List Byte)), chunks ≠ [] → feedAll s chunks = feedChunk s chunks.flatten) ∧
  (∀ (s : State) (chunk : List Byte), s.cfg.WellFormed →
    exec (.feed chunk) s =
      .next { (feedChunk s chunk).1 with response := some (.items (feedChunk s chunk).2) })

/-- 45_stream_parser.md, the byte law the spec marks as derived, in stream order (20_memory.md): the bytes before and
fed are, in order, the segments the results account for and what stays in the buffer. -/
def Obligations.FeedAccountsForEveryByte : Prop :=
  ∀ (s t : State) (chunk : List Byte) (out : List Item),
    exec (.feed chunk) s = .next t → t.response = some (.items out) →
      ∃ segs : List (List Byte), s.rxbuf ++ chunk = segs.flatten ++ t.rxbuf ∧
        List.Forall₂ (AccountsFor s.cfg) out segs

/-- 44_framer_decode.md, which the spec marks as derived: what an event of FEED can report; `HeaderUnderrun`,
`BadMarker` and `LengthMismatch` never, `TruncatedPayload` in version 1 only. -/
def Obligations.FeedReportsOnlyTheseErrors : Prop :=
  ∀ (s t : State) (chunk : List Byte) (out : List Item),
    exec (.feed chunk) s = .next t → t.response = some (.items out) →
      ∀ e : Event, Item.event e ∈ out → FeedMayReport s.cfg e

/-- Resynchronisation (45_stream_parser.md): bytes that are not the marker, before one frame that decodes, are dropped
one event each, and the frame behind them is found. -/
def Obligations.GarbageBeforeAFrameIsDropped : Prop :=
  ∀ (s : State) (garbage C : List Byte) (m : Message),
    s.rxbuf = [] → (∀ b ∈ garbage, b ≠ s.cfg.marker) → Answers (.frameDec C) s (.message m) →
      exec (.feed (garbage ++ C)) s = .next { s with
        expectedLen := s.cfg.hs
        bytesRcvd := s.bytesRcvd + garbage.length + C.length
        pktsRcvd := s.pktsRcvd + 1
        rxErrors := s.rxErrors + garbage.length
        response := some (.items
          (garbage.map (fun b => Item.event { bytes := [b], reason := .badPrefix }) ++ [.message m])) }

/-- R139. -/
def Obligations.StatReadReturnsTheCounters : Prop :=
  ∀ s : State, Answers .statRead s
    (.stats s.seq s.pktsSent s.bytesSent s.pktsRcvd s.bytesRcvd s.rxErrors)

/-! ## Wire frames, reserved codes, requests and steps -/

/-- The model's choice (log 9): a wire frame of the table's rows FRAME.V1 and FRAME.V2 arrives as one chunk of the bytes
that 30_encoding.md lays out, and the session answers as FEED does. -/
def Obligations.WireFramesArriveAsOneChunk : Prop :=
  ∀ s : State, s.cfg.WellFormed →
    (∀ f : WireV1, ∃ (t : State) (out : List Item),
      exec (.frameV1 f) s = .next t ∧ t.response = some (.items out) ∧
      exec (.feed ([0xFE, BitVec.ofNat 8 f.payload.length, f.seq, f.sysid, f.compid, f.msgid] ++ f.payload ++
        [f.cksum.extractLsb' 0 8, f.cksum.extractLsb' 8 8])) s = .next t) ∧
    (∀ f : WireV2, ∃ (t : State) (out : List Item),
      exec (.frameV2 f) s = .next t ∧ t.response = some (.items out) ∧
      exec (.feed ([f.marker, BitVec.ofNat 8 f.payload.length, f.incompatFlags, f.compatFlags, f.seq, f.sysid,
        f.compid, f.msgid.extractLsb' 0 8, f.msgid.extractLsb' 8 8, f.msgid.extractLsb' 16 8] ++ f.payload ++
        [f.cksum.extractLsb' 0 8, f.cksum.extractLsb' 8 8])) s = .next t)

/-- R64: a request with a reserved code is answered with UnknownOp, no state is written; only the reserved codes decode
so; and the kind codes 11 to 15 name no kind. That operands beside a reserved code are ignored is the model's, DEDUCED
(log 11). -/
def Obligations.ReservedCodesAnswerUnknownOp : Prop :=
  (∀ (s : State) (op : Byte), Answers (.reserved op) s (.error (.unknownOp op))) ∧
  (∀ k : Nat, 11 ≤ k → k ≤ 15 → Kind.ofCode k = none) ∧
  (∀ (op : Byte) (args : List Operand), isReservedCode op = true ↔ decode (.op op args) = .ok (.reserved op))

/-- Logs 6 and 7: a request that decodes to an instruction is taken off the queue and performed as `exec` says; with no
request the session is idle and nothing changes; a request the decoder rejects is refused. -/
def Obligations.StepRunsTheDecodedRequest : Prop :=
  (∀ (s : State) (r : Request) (rest : List Request) (i : Instr),
    s.requests = r :: rest → decode r = .ok i → step s = exec i { s with requests := rest }) ∧
  (∀ s : State, s.requests = [] → step s = .next s) ∧
  (∀ (s : State) (r : Request) (rest : List Request) (e : DecodeError),
    s.requests = r :: rest → decode r = .error e → ∃ x : Refusal, step s = .refused x)

/-- R63: codes of each family as the operation map prints them, and a V1 frame of R53 (the bytes of vector V1). -/
def Obligations.PrintedCodesDecodeToTheirOperations : Prop :=
  decode (.op 0x01 []) = .ok .crcInit ∧
  decode (.op 0x12 [.word16 0xFFFE]) = .ok (.packI16 0xFFFE) ∧
  decode (.op 0x24 [.bytes [0x11, 0xEF, 0xBE, 0xAD, 0xDE], .nat 1]) = .ok (.unpackI32 [0x11, 0xEF, 0xBE, 0xAD, 0xDE] 1) ∧
  decode (.op 0x33 [.bytes [0xFD]]) = .ok (.hdrUnpackV2 [0xFD]) ∧
  decode (.op 0x43 [.nat 9]) = .ok (.sessionSent 9) ∧
  decode (.op 0x4A [.bytes []]) = .ok (.frameDec []) ∧
  decode (.op 0x50 [.bytes [0xFE]]) = .ok (.feed [0xFE]) ∧
  decode (.frame .v1 [0xFE, 0x01, 0x00, 0x2A, 0x96, 0x00, 0x07, 0xAF, 0x3A]) =
    .ok (.frameV1 { seq := 0, sysid := 42, compid := 150, msgid := 0, payload := [7], cksum := 0x3AAF })

/-- Every well-formed instruction, with every operand, is what the decoder reads from its encoding. -/
def Obligations.DecodeUndoesEncode : Prop :=
  ∀ i : Instr, i.wf = true → decode (encode i) = .ok i

/-- No bit of a request is dropped: what decodes is the encoding of the instruction read, but for operands beside a
reserved code, which 30_encoding.md never looks at (log 11). -/
def Obligations.DecodedRequestsAreTheirEncodings : Prop :=
  ∀ (r : Request) (i : Instr), decode r = .ok i →
    encode i = r ∨ ∃ (op : Byte) (args : List Operand), r = .op op args ∧ i = .reserved op ∧ isReservedCode op = true

/-! ## Rules of the whole machine -/

/-- 60_exceptions.md ("None of these are fatal"): every well-formed instruction of Instr completes in every session with
a well-formed REGISTRY, whatever its operands; and exec refuses only what that file gives no behaviour, an ill-formed
descriptor or a session over an ill-formed REGISTRY (logs 13 and 14). -/
def Obligations.EveryInstructionCompletes : Prop :=
  (∀ (i : Instr) (s : State), i.wf = true → s.cfg.WellFormed →
    ∃ (t : State) (r : Response), exec i s = .next t ∧ t.response = some r) ∧
  (∀ (i : Instr) (s : State) (x : Refusal), exec i s = .refused x →
    (x = .illFormedDescriptor ∧ i.wf = false) ∨ (x = .illFormedRegistry ∧ ¬ s.cfg.WellFormed))

/-- 60_exceptions.md, Entry: an operation whose response is an error has written no state. -/
def Obligations.ErrorsWriteNoState : Prop :=
  ∀ (i : Instr) (s t : State) (e : Err), exec i s = .next t → t.response = some (.error e) →
    t = { s with response := some (.error e) }

/-- 10_state.md: the configuration and the source ids keep their values for the life of a session. -/
def Obligations.ConfigurationNeverChanges : Prop :=
  ∀ s t : State, step s = .next t → t.cfg = s.cfg ∧ t.sysid = s.sysid ∧ t.compid = s.compid

/-- 10_state.md: which operations write which register. -/
def Obligations.RegistersHaveOnlyTheirWriters : Prop :=
  ∀ (i : Instr) (s t : State), exec i s = .next t →
    (t.crc ≠ s.crc → i = .crcInit ∨ (∃ b, i = .crcByte b) ∨ (∃ S, i = .crcBuf S) ∨ ∃ b, i = .crcSalt b) ∧
    (t.seq ≠ s.seq ∨ t.pktsSent ≠ s.pktsSent ∨ t.bytesSent ≠ s.bytesSent → ∃ n, i = .sessionSent n) ∧
    (t.rxbuf ≠ s.rxbuf ∨ t.expectedLen ≠ s.expectedLen ∨ t.pktsRcvd ≠ s.pktsRcvd ∨ t.bytesRcvd ≠ s.bytesRcvd ∨
      t.rxErrors ≠ s.rxErrors → (∃ chunk, i = .feed chunk) ∨ (∃ f, i = .frameV1 f) ∨ ∃ f, i = .frameV2 f)

/-- 10_state.md: the five counters never decrease. -/
def Obligations.CountersNeverDecrease : Prop :=
  ∀ s t : State, step s = .next t →
    s.pktsSent ≤ t.pktsSent ∧ s.bytesSent ≤ t.bytesSent ∧ s.pktsRcvd ≤ t.pktsRcvd ∧ s.bytesRcvd ≤ t.bytesRcvd ∧
      s.rxErrors ≤ t.rxErrors

/-- 10_state.md and 60_exceptions.md, many sessions: a step of one is a step of its own state, and no other session
changes. -/
def Obligations.SessionsDoNotTouchEachOther : Prop :=
  ∀ (k : Nat) (before after : List State), stepSession k before = .next after →
    after.length = before.length ∧ (∀ j : Nat, j ≠ k → after[j]? = before[j]?) ∧
    ∃ s t : State, before[k]? = some s ∧ step s = .next t ∧ after[k]? = some t

/-! ## Pseudo-operations -/

/-- 30_encoding.md, pseudo-operations: CRC.FRAME leaves its result in CRC as well; CRC.UPDATE is CRC.BUF; SEND is
FRAME.ENC and, on success, SESSION.SENT of the frame's length, and leaves only the error otherwise. What the field
`response` holds after a sequence, that of its last operation (after SEND `done`, not the frame, which was the response
of its FRAME.ENC), is the model's, DEDUCED (log 24). -/
def Obligations.CrcFrameAndSendExpand : Prop :=
  (∀ (s : State) (H P : List Byte) (salt : Byte),
    let c := coveredChecksum H P salt
    runPseudo (.crcFrame H P salt) s = .next { s with crc := c, response := some (.crc c) }) ∧
  (∀ (s : State) (S : List Byte), runPseudo (.crcUpdate S) s = exec (.crcBuf S) s) ∧
  (∀ (s : State) (d : Descriptor) (V : List Value) (F : List Byte), Answers (.frameEnc d V) s (.bytes F) →
    runPseudo (.send d V) s = .next { s with
      seq := s.seq + 1
      pktsSent := s.pktsSent + 1
      bytesSent := s.bytesSent + F.length
      response := some .done }) ∧
  (∀ (s : State) (d : Descriptor) (V : List Value) (e : Err), Answers (.frameEnc d V) s (.error e) →
    runPseudo (.send d V) s = .next { s with response := some (.error e) })

/-- 30_encoding.md, pseudo-operations: where FRAME.DEC succeeds, the leaf sequence gives the same values, and leaves the
frame's checksum in CRC, where FRAME.DEC leaves CRC untouched. The response after the sequence is that of its last
operation: the model's, DEDUCED (log 24). -/
def Obligations.LeafStepsDecodeAsFrameDec : Prop :=
  ∀ (s : State) (C : List Byte) (m : Message), Answers (.frameDec C) s (.message m) →
    runPseudo (.decodeSteps C) s =
      .next { s with crc := candidateCksum C, response := some (.values m.values) }
end

