-- ==== Sys2Proof/Laws/Bytes.lean ====
section
/-! SUPPORT. Little-endian sequences, slices and zeros. -/

namespace Sys2Proof.Machine

@[simp] theorem le_zero (v : Nat) : le 0 v = [] := rfl

@[simp] theorem le_succ (n v : Nat) : le (n + 1) v = BitVec.ofNat 8 v :: le n (v / 256) := rfl

@[simp] theorem le_length (n v : Nat) : (le n v).length = n := by
  induction n generalizing v with
  | zero => rfl
  | succ n ih => simp [ih]

@[simp] theorem unle_nil : unle [] = 0 := rfl

@[simp] theorem unle_cons (b : Byte) (S : List Byte) : unle (b :: S) = b.toNat + 256 * unle S := rfl

theorem unle_lt (S : List Byte) : unle S < 256 ^ S.length := by
  induction S with
  | nil => simp
  | cons b S ih =>
    have := b.isLt
    simp only [unle_cons, List.length_cons, pow_succ]
    omega

theorem unle_le (n v : Nat) : unle (le n v) = v % 256 ^ n := by
  induction n generalizing v with
  | zero => simp [Nat.mod_one]
  | succ n ih =>
    rw [le_succ, unle_cons, ih, BitVec.toNat_ofNat, pow_succ' 256 n, Nat.mod_mul]

theorem le_unle (S : List Byte) : le S.length (unle S) = S := by
  induction S with
  | nil => rfl
  | cons b S ih =>
    have hb := b.isLt
    have h1 : (b.toNat + 256 * unle S) / 256 = unle S := by omega
    have h2 : BitVec.ofNat 8 (b.toNat + 256 * unle S) = b := by
      apply BitVec.eq_of_toNat_eq
      simp only [BitVec.toNat_ofNat]
      omega
    simp [h1, h2, ih]

theorem le_unle_of_length {S : List Byte} {n : Nat} (h : S.length = n) : le n (unle S) = S := by
  subst h
  exact le_unle S

@[simp] theorem zeros_length (n : Nat) : (zeros n).length = n := by simp [zeros]

theorem slice_eq {α : Type} (S : List α) (a n : Nat) : slice S a (a + n) = (S.drop a).take n := by
  simp [slice, List.drop_take]

theorem memRead_eq (S : List Byte) (off n : Nat) : memRead S off n = unle ((S.drop off).take n) := by
  rw [memRead, slice_eq]

theorem memWrite_length (S : List Byte) (off n v : Nat) (h : off + n ≤ S.length) :
    (memWrite S off n v).length = S.length := by
  simp [memWrite]
  omega

/-- R18: what MemWrite wrote, MemRead reads. -/
theorem memRead_memWrite (S : List Byte) (off n v : Nat) (h : off + n ≤ S.length) :
    memRead (memWrite S off n v) off n = v % 256 ^ n := by
  have hl : (S.take off).length = off := by simp; omega
  have : ((memWrite S off n v).drop off).take n = le n v := by
    rw [memWrite, List.append_assoc, List.drop_append_of_le_length (by omega)]
    simp
  rw [memRead_eq, this, unle_le]

end Sys2Proof.Machine
end

