-- ==== Sys2Proof/Laws/Codec.lean ====
section
/-! SUPPORT. The header codec, truncation, padding and the configuration's lookup. -/

namespace Sys2Proof

theorem Version.headerSize_cases (v : Version) : (v = .v1 ∧ v.headerSize = 6) ∨ (v = .v2 ∧ v.headerSize = 10) := by
  cases v
  · exact .inl ⟨rfl, rfl⟩
  · exact .inr ⟨rfl, rfl⟩

/-- R28: what lookup finds is in the REGISTRY under its own id. -/
theorem Config.lookup_some {c : Config} {id : MsgId} {d : Descriptor} (h : c.lookup id = some d) :
    d ∈ c.registry ∧ d.id = id := by
  refine ⟨List.mem_of_find?_eq_some h, ?_⟩
  have := List.find?_some h
  simpa using this

namespace Machine

/-- R109: fewer than six bytes. -/
theorem hdrUnpackV1_short {S : List Byte} (h : S.length < 6) : hdrUnpackV1 S = .error .headerUnderrun := by
  match S, h with
  | [], _ => rfl
  | [_], _ => rfl
  | [_, _], _ => rfl
  | [_, _, _], _ => rfl
  | [_, _, _, _], _ => rfl
  | [_, _, _, _, _], _ => rfl
  | _ :: _ :: _ :: _ :: _ :: _ :: _, h => simp at h; omega

/-- R110: fewer than ten bytes. -/
theorem hdrUnpackV2_short {S : List Byte} (h : S.length < 10) : hdrUnpackV2 S = .error .headerUnderrun := by
  match S, h with
  | [], _ => rfl
  | [_], _ => rfl
  | [_, _], _ => rfl
  | [_, _, _], _ => rfl
  | [_, _, _, _], _ => rfl
  | [_, _, _, _, _], _ => rfl
  | [_, _, _, _, _, _], _ => rfl
  | [_, _, _, _, _, _, _], _ => rfl
  | [_, _, _, _, _, _, _, _], _ => rfl
  | [_, _, _, _, _, _, _, _, _], _ => rfl
  | _ :: _ :: _ :: _ :: _ :: _ :: _ :: _ :: _ :: _ :: _, h => simp at h; omega

/-- R122 step 1: the header codec fails exactly on fewer than HS bytes. -/
theorem hdrUnpack_short {v : Version} {S : List Byte} (h : S.length < v.headerSize) :
    hdrUnpack v S = .error .headerUnderrun := by
  cases v
  · exact hdrUnpackV1_short h
  · exact hdrUnpackV2_short h

/-- R109, R110: with HS bytes the codec answers a header whose marker and length are the first two bytes. -/
theorem hdrUnpack_ok {v : Version} {S : List Byte} (h : v.headerSize ≤ S.length) :
    ∃ hd, hdrUnpack v S = .ok hd ∧ hd.marker = S.getD 0 0 ∧ hd.plen = S.getD 1 0 := by
  cases v
  · match S, h with
    | _ :: _ :: _ :: _ :: _ :: _ :: _, _ => exact ⟨_, rfl, rfl, rfl⟩
  · match S, h with
    | _ :: _ :: _ :: _ :: _ :: _ :: _ :: _ :: _ :: _ :: _, _ => exact ⟨_, rfl, rfl, rfl⟩

/-- R107, R108: a header that packs has HS bytes. -/
theorem hdrPack_length {v : Version} {h : Header} {H : List Byte} (hp : hdrPack v h = .ok H) :
    H.length = v.headerSize := by
  cases v
  · simp only [hdrPack, hdrPackV1] at hp
    split at hp
    · cases hp
    · cases hp
      rfl
  · cases hp
    rfl

theorem truncLen_le (P : List Byte) (n : Nat) : truncLen P n ≤ n := by
  induction n using truncLen.induct P with
  | case1 => simp [truncLen]
  | case2 => simp [truncLen]
  | case3 n h ih => simp only [truncLen, h, if_true]; omega
  | case4 n h => simp only [truncLen, h, if_false]; omega

/-- R114: the loop never goes below length 1 from a non-empty sequence. -/
theorem truncLen_pos (P : List Byte) (n : Nat) (h : 0 < n) : 0 < truncLen P n := by
  induction n using truncLen.induct P with
  | case1 => omega
  | case2 => simp [truncLen]
  | case3 n hz ih => simp only [truncLen, hz, if_true]; exact ih (by omega)
  | case4 n hz => simp only [truncLen, hz, if_false]; omega

/-- R114: the loop stops at length 1 or before a non-zero byte. -/
theorem truncLen_stop (P : List Byte) (n : Nat) (h : 1 < truncLen P n) : P.getD (truncLen P n - 1) 0 ≠ 0 := by
  induction n using truncLen.induct P with
  | case1 => simp [truncLen] at h
  | case2 => simp [truncLen] at h
  | case3 n hz ih =>
    simp only [truncLen, hz, if_true] at h ⊢
    exact ih h
  | case4 n hz =>
    simp only [truncLen, hz, if_false]
    exact hz

/-- R114: what the loop passes over is zero. -/
theorem truncLen_zeros (P : List Byte) (n i : Nat) (h1 : truncLen P n ≤ i) (h2 : i < n) : P.getD i 0 = 0 := by
  induction n using truncLen.induct P with
  | case1 => omega
  | case2 => simp [truncLen] at h1; omega
  | case3 n hz ih =>
    simp only [truncLen, hz, if_true] at h1
    by_cases hi : i = n + 1
    · exact hi ▸ hz
    · exact ih h1 (by omega)
  | case4 n hz =>
    simp only [truncLen, hz, if_false] at h1
    omega

@[simp] theorem truncZ_length (P : List Byte) : (truncZ P).length = truncLen P P.length := by
  simp [truncZ, truncLen_le]

/-- R119: padding never shortens and reaches at least n bytes. -/
theorem zpad_length (P : List Byte) (n : Nat) : (zpad P n).length = max P.length n := by
  unfold zpad
  split
  · simp; omega
  · omega

theorem scatter_length {α : Type} (ws : List Nat) (vs W : List α) : (scatter ws vs W).length = W.length := by
  induction ws generalizing vs W with
  | nil => simp [scatter]
  | cons w ws ih =>
    cases vs with
    | nil => simp [scatter]
    | cons v vs => simp [scatter, ih]

/-- R115: everything encoding can answer, step by step. -/
theorem encodeFrame_ok {c : Config} {seq sysid compid : Byte} {d : Descriptor} {V : List Value} {F : List Byte}
    (h : encodeFrame c seq sysid compid d V = .ok F) :
    ∃ W Q H, reorderD2w d V = .ok W ∧ packLayout d.wire W = .ok Q ∧
      (wirePayload c.version Q).length ≤ 255 ∧
      hdrPack c.version (encHeader c seq sysid compid d (wirePayload c.version Q).length) = .ok H ∧
      F = H ++ wirePayload c.version Q ++
        le 2 (frameChecksum H (wirePayload c.version Q) d.salt).toNat := by
  simp only [encodeFrame] at h
  split at h
  · cases h
  rename_i W hW
  split at h
  · cases h
  rename_i Q hQ
  simp only [encPayload] at h
  split at h
  · cases h
  split at h
  · cases h
  rename_i H hH
  cases h
  exact ⟨W, Q, H, hW, hQ, by omega, hH, rfl⟩

/-- R122: everything a successful decode says of the candidate. -/
theorem decodeFrame_ok {c : Config} {C : List Byte} {m : Message} (h : decodeFrame c C = .ok m) :
    ∃ hd d, hdrUnpack c.version C = .ok hd ∧ hd.marker = c.marker ∧
      (hd.plen.toNat : Int) = (C.length : Int) - c.hs - 2 ∧ c.lookup hd.msgid = some d ∧
      decodeBody c d hd C = .ok m := by
  simp only [decodeFrame] at h
  split at h
  · cases h
  rename_i hd hhd
  split at h
  · cases h
  rename_i hm
  split at h
  · cases h
  rename_i hl
  split at h
  · cases h
  rename_i d hd'
  exact ⟨hd, d, hhd, not_not.mp hm, not_not.mp hl, hd', h⟩

end Machine

end Sys2Proof
end

