-- ==== Sys2Proof/Laws/Crc.lean ====
section
/-! SUPPORT. The checksum fold. -/

namespace Sys2Proof.Machine

@[simp] theorem crcFold_nil (c : Word16) : crcFold c [] = c := rfl

@[simp] theorem crcFold_cons (c : Word16) (b : Byte) (S : List Byte) :
    crcFold c (b :: S) = crcFold (crcStep c b) S := rfl

/-- R68: feeding a sequence in pieces gives the same result as feeding it whole. -/
theorem crcFold_append (c : Word16) (S T : List Byte) : crcFold c (S ++ T) = crcFold (crcFold c S) T := by
  simp [crcFold]

/-- R69: the frame checksum is one fold over the covered bytes and a last step with the salt. -/
theorem frameChecksum_eq (H P : List Byte) (salt : Byte) :
    frameChecksum H P salt = crcStep (crcFold seed (H.drop 1 ++ P)) salt := by
  rw [frameChecksum, crcFold_append]

end Sys2Proof.Machine
end

