-- ==== Sys2Proof/Laws/Exec.lean ====
section
/-! SUPPORT. What `exec` is for each instruction, so that no proof unfolds the dispatch. -/

namespace Sys2Proof.Machine

variable (s : State)

@[simp] theorem exec_crcInit : exec .crcInit s = execCrcInit s := rfl
@[simp] theorem exec_crcByte (b : Byte) : exec (.crcByte b) s = execCrcByte b s := rfl
@[simp] theorem exec_crcBuf (bytes : List Byte) : exec (.crcBuf bytes) s = execCrcBuf bytes s := rfl
@[simp] theorem exec_crcSalt (salt : Byte) : exec (.crcSalt salt) s = execCrcSalt salt s := rfl
@[simp] theorem exec_crcRead : exec .crcRead s = execCrcRead s := rfl
@[simp] theorem exec_packI8 (v : BitVec 8) : exec (.packI8 v) s = execPackI8 v s := rfl
@[simp] theorem exec_packU8 (v : BitVec 8) : exec (.packU8 v) s = execPackU8 v s := rfl
@[simp] theorem exec_packI16 (v : BitVec 16) : exec (.packI16 v) s = execPackI16 v s := rfl
@[simp] theorem exec_packU16 (v : BitVec 16) : exec (.packU16 v) s = execPackU16 v s := rfl
@[simp] theorem exec_packI32 (v : BitVec 32) : exec (.packI32 v) s = execPackI32 v s := rfl
@[simp] theorem exec_packU32 (v : BitVec 32) : exec (.packU32 v) s = execPackU32 v s := rfl
@[simp] theorem exec_packI64 (v : BitVec 64) : exec (.packI64 v) s = execPackI64 v s := rfl
@[simp] theorem exec_packU64 (v : BitVec 64) : exec (.packU64 v) s = execPackU64 v s := rfl
@[simp] theorem exec_packF32 (v : BitVec 32) : exec (.packF32 v) s = execPackF32 v s := rfl
@[simp] theorem exec_packF64 (v : BitVec 64) : exec (.packF64 v) s = execPackF64 v s := rfl
@[simp] theorem exec_packChar (v : BitVec 8) : exec (.packChar v) s = execPackChar v s := rfl
@[simp] theorem exec_packLayout (layout : List Slot) (vals : List Value) : exec (.packLayout layout vals) s = execPackLayout layout vals s := rfl
@[simp] theorem exec_unpackI8 (bytes : List Byte) (off : Nat) : exec (.unpackI8 bytes off) s = execUnpackI8 bytes off s := rfl
@[simp] theorem exec_unpackU8 (bytes : List Byte) (off : Nat) : exec (.unpackU8 bytes off) s = execUnpackU8 bytes off s := rfl
@[simp] theorem exec_unpackI16 (bytes : List Byte) (off : Nat) : exec (.unpackI16 bytes off) s = execUnpackI16 bytes off s := rfl
@[simp] theorem exec_unpackU16 (bytes : List Byte) (off : Nat) : exec (.unpackU16 bytes off) s = execUnpackU16 bytes off s := rfl
@[simp] theorem exec_unpackI32 (bytes : List Byte) (off : Nat) : exec (.unpackI32 bytes off) s = execUnpackI32 bytes off s := rfl
@[simp] theorem exec_unpackU32 (bytes : List Byte) (off : Nat) : exec (.unpackU32 bytes off) s = execUnpackU32 bytes off s := rfl
@[simp] theorem exec_unpackI64 (bytes : List Byte) (off : Nat) : exec (.unpackI64 bytes off) s = execUnpackI64 bytes off s := rfl
@[simp] theorem exec_unpackU64 (bytes : List Byte) (off : Nat) : exec (.unpackU64 bytes off) s = execUnpackU64 bytes off s := rfl
@[simp] theorem exec_unpackF32 (bytes : List Byte) (off : Nat) : exec (.unpackF32 bytes off) s = execUnpackF32 bytes off s := rfl
@[simp] theorem exec_unpackF64 (bytes : List Byte) (off : Nat) : exec (.unpackF64 bytes off) s = execUnpackF64 bytes off s := rfl
@[simp] theorem exec_unpackChar (bytes : List Byte) (off : Nat) : exec (.unpackChar bytes off) s = execUnpackChar bytes off s := rfl
@[simp] theorem exec_unpackLayout (layout : List Slot) (bytes : List Byte) : exec (.unpackLayout layout bytes) s = execUnpackLayout layout bytes s := rfl
@[simp] theorem exec_hdrPackV1 (h : Header) : exec (.hdrPackV1 h) s = execHdrPackV1 h s := rfl
@[simp] theorem exec_hdrPackV2 (h : Header) : exec (.hdrPackV2 h) s = execHdrPackV2 h s := rfl
@[simp] theorem exec_hdrUnpackV1 (bytes : List Byte) : exec (.hdrUnpackV1 bytes) s = execHdrUnpackV1 bytes s := rfl
@[simp] theorem exec_hdrUnpackV2 (bytes : List Byte) : exec (.hdrUnpackV2 bytes) s = execHdrUnpackV2 bytes s := rfl
@[simp] theorem exec_reorderD2w (d : Descriptor) (vals : List Value) : exec (.reorderD2w d vals) s = execReorderD2w d vals s := rfl
@[simp] theorem exec_truncZ (payload : List Byte) : exec (.truncZ payload) s = execTruncZ payload s := rfl
@[simp] theorem exec_frameEnc (d : Descriptor) (vals : List Value) : exec (.frameEnc d vals) s = execFrameEnc d vals s := rfl
@[simp] theorem exec_sessionSent (n : Nat) : exec (.sessionSent n) s = execSessionSent n s := rfl
@[simp] theorem exec_zpad (payload : List Byte) (n : Nat) : exec (.zpad payload n) s = execZpad payload n s := rfl
@[simp] theorem exec_reorderW2d (d : Descriptor) (flat : List Pattern) : exec (.reorderW2d d flat) s = execReorderW2d d flat s := rfl
@[simp] theorem exec_frameDec (cand : List Byte) : exec (.frameDec cand) s = execFrameDec cand s := rfl
@[simp] theorem exec_feed (chunk : List Byte) : exec (.feed chunk) s = execFeed chunk s := rfl
@[simp] theorem exec_statRead : exec .statRead s = execStatRead s := rfl
@[simp] theorem exec_frameV1 (f : WireV1) : exec (.frameV1 f) s = execFrameV1 f s := rfl
@[simp] theorem exec_frameV2 (f : WireV2) : exec (.frameV2 f) s = execFrameV2 f s := rfl
@[simp] theorem exec_reserved (op : Byte) : exec (.reserved op) s = execReserved op s := rfl

end Sys2Proof.Machine
end

