-- ==== Sys2Proof/Laws/Operands.lean ====
section
/-! SUPPORT. Patterns, elements and layouts: what each function can answer, once. -/

namespace Sys2Proof

theorem Pattern.toNat_lt (p : Pattern) : p.toNat < 256 ^ p.size := by
  cases p <;> simp only [Pattern.toNat, Pattern.size] <;> exact BitVec.isLt _

@[simp] theorem Kind.pattern_size (k : Kind) (n : Nat) : (k.pattern n).size = k.size := by
  cases k <;> rfl

@[simp] theorem Kind.pattern_toNat (k : Kind) (n : Nat) : (k.pattern n).toNat = n % 256 ^ k.size := by
  cases k <;> simp [Kind.pattern, Pattern.toNat, Kind.size]

/-- A pattern of the kind's width is what its own number gives. -/
theorem Kind.pattern_of_toNat {k : Kind} {p : Pattern} (h : p.size = k.size) : k.pattern p.toNat = p := by
  cases k <;> cases p <;> simp_all [Pattern.size, Kind.size, Kind.pattern, Pattern.toNat]

theorem Kind.size_pos (k : Kind) : 0 < k.size := by cases k <;> decide

theorem Slot.fc_pos (sl : Slot) : 0 < sl.fc := by
  simp only [Slot.fc]
  split <;> omega

namespace Machine

@[simp] theorem packPattern_length (p : Pattern) : (packPattern p).length = p.size := by simp [packPattern]

theorem unle_packPattern (p : Pattern) : unle (packPattern p) = p.toNat := by
  rw [packPattern, unle_le, Nat.mod_eq_of_lt p.toNat_lt]

/-- R79: packing the pattern that n bytes hold gives those bytes back. -/
theorem packPattern_unle (k : Kind) {S : List Byte} (h : S.length = k.size) :
    packPattern (k.pattern (unle S)) = S := by
  have := unle_lt S
  rw [packPattern, Kind.pattern_size, Kind.pattern_toNat, ← h, Nat.mod_eq_of_lt this, le_unle]

/-- R79: where enough bytes remain, the element is the one those bytes hold. -/
theorem unpackKind_ok (k : Kind) (S : List Byte) (off : Nat) (h : off + k.size ≤ S.length) :
    unpackKind k S off = .ok (k.pattern (unle ((S.drop off).take k.size))) := by
  rw [unpackKind, memRead_eq, if_neg (by omega)]

/-- R79: where fewer bytes remain, the element is `TruncatedPayload`. -/
theorem unpackKind_error (k : Kind) (S : List Byte) (off : Nat) (h : S.length < off + k.size) :
    unpackKind k S off = .error .truncatedPayload := by
  rw [unpackKind, if_pos (by omega)]

@[simp] theorem layoutLen_nil : layoutLen [] = 0 := rfl

@[simp] theorem layoutLen_cons (sl : Slot) (L : List Slot) : layoutLen (sl :: L) = sl.bytes + layoutLen L := rfl

@[simp] theorem flatLen_nil : flatLen [] = 0 := rfl

@[simp] theorem flatLen_cons (sl : Slot) (L : List Slot) : flatLen (sl :: L) = sl.fc + flatLen L := rfl

theorem layoutLen_eq_sum (L : List Slot) : layoutLen L = (L.map fun sl => sl.fc * sl.kind.size).sum := by
  induction L with
  | nil => rfl
  | cons sl L ih => simp [ih, Slot.bytes]

theorem flatLen_eq_sum (L : List Slot) : flatLen L = (L.map Slot.fc).sum := by
  induction L with
  | nil => rfl
  | cons sl L ih => simp [ih]

@[simp] theorem flatten_nil : flatten [] = [] := rfl

@[simp] theorem flatten_cons (v : Value) (V : List Value) : flatten (v :: V) = valueElems v ++ flatten V := rfl

/-- R30: a value of the slot's shape has `fc` elements. -/
theorem shapeFits_length {sl : Slot} {v : Value} (h : shapeFits sl v = true) : (valueElems v).length = sl.fc := by
  cases v <;> simp_all [shapeFits, valueElems, Slot.fc]

@[simp] theorem fitsLayout_nil : fitsLayout [] [] = true := rfl

@[simp] theorem fitsLayout_cons (sl : Slot) (L : List Slot) (v : Value) (V : List Value) :
    fitsLayout (sl :: L) (v :: V) = (fitsSlot sl v && fitsLayout L V) := by
  simp only [fitsLayout, List.length_cons, List.zip_cons_cons, List.all_cons]
  cases fitsSlot sl v <;> simp

@[simp] theorem fitsLayout_nil_cons (v : Value) (V : List Value) : fitsLayout [] (v :: V) = false := by
  simp [fitsLayout]

@[simp] theorem fitsLayout_cons_nil (sl : Slot) (L : List Slot) : fitsLayout (sl :: L) [] = false := by
  simp [fitsLayout]

/-- R104: everything `pack_layout` can answer: the elements' bytes in order, or `ValueShape`. -/
theorem packLayout_eq (L : List Slot) (V : List Value) :
    packLayout L V =
      if fitsLayout L V then .ok ((flatten V).flatMap packPattern) else .error .valueShape := by
  induction L generalizing V with
  | nil => cases V <;> simp [packLayout]
  | cons sl L ih =>
    cases V with
    | nil => simp [packLayout]
    | cons v V =>
      simp only [packLayout, packSlot, ih, fitsLayout_cons]
      cases fitsSlot sl v <;> cases fitsLayout L V <;> simp

end Machine

end Sys2Proof
end

