-- ==== Sys2Proof/Laws/State.lean ====
section
/-! SUPPORT. One lemma per field per state update, so that no proof unfolds a record update. -/

namespace Sys2Proof.Machine

variable (s : State)

@[simp] theorem State.setCrc_crc (c : Word16) : (s.setCrc c).crc = c := rfl
@[simp] theorem State.setCrc_seq (c : Word16) : (s.setCrc c).seq = s.seq := rfl
@[simp] theorem State.setCrc_sysid (c : Word16) : (s.setCrc c).sysid = s.sysid := rfl
@[simp] theorem State.setCrc_compid (c : Word16) : (s.setCrc c).compid = s.compid := rfl
@[simp] theorem State.setCrc_rxbuf (c : Word16) : (s.setCrc c).rxbuf = s.rxbuf := rfl
@[simp] theorem State.setCrc_expectedLen (c : Word16) : (s.setCrc c).expectedLen = s.expectedLen := rfl
@[simp] theorem State.setCrc_pktsSent (c : Word16) : (s.setCrc c).pktsSent = s.pktsSent := rfl
@[simp] theorem State.setCrc_bytesSent (c : Word16) : (s.setCrc c).bytesSent = s.bytesSent := rfl
@[simp] theorem State.setCrc_pktsRcvd (c : Word16) : (s.setCrc c).pktsRcvd = s.pktsRcvd := rfl
@[simp] theorem State.setCrc_bytesRcvd (c : Word16) : (s.setCrc c).bytesRcvd = s.bytesRcvd := rfl
@[simp] theorem State.setCrc_rxErrors (c : Word16) : (s.setCrc c).rxErrors = s.rxErrors := rfl
@[simp] theorem State.setCrc_cfg (c : Word16) : (s.setCrc c).cfg = s.cfg := rfl
@[simp] theorem State.setCrc_requests (c : Word16) : (s.setCrc c).requests = s.requests := rfl
@[simp] theorem State.setCrc_response (c : Word16) : (s.setCrc c).response = s.response := rfl

@[simp] theorem State.countSent_crc (n : Nat) : (s.countSent n).crc = s.crc := rfl
@[simp] theorem State.countSent_seq (n : Nat) : (s.countSent n).seq = s.seq + 1 := rfl
@[simp] theorem State.countSent_sysid (n : Nat) : (s.countSent n).sysid = s.sysid := rfl
@[simp] theorem State.countSent_compid (n : Nat) : (s.countSent n).compid = s.compid := rfl
@[simp] theorem State.countSent_rxbuf (n : Nat) : (s.countSent n).rxbuf = s.rxbuf := rfl
@[simp] theorem State.countSent_expectedLen (n : Nat) : (s.countSent n).expectedLen = s.expectedLen := rfl
@[simp] theorem State.countSent_pktsSent (n : Nat) : (s.countSent n).pktsSent = s.pktsSent + 1 := rfl
@[simp] theorem State.countSent_bytesSent (n : Nat) : (s.countSent n).bytesSent = s.bytesSent + n := rfl
@[simp] theorem State.countSent_pktsRcvd (n : Nat) : (s.countSent n).pktsRcvd = s.pktsRcvd := rfl
@[simp] theorem State.countSent_bytesRcvd (n : Nat) : (s.countSent n).bytesRcvd = s.bytesRcvd := rfl
@[simp] theorem State.countSent_rxErrors (n : Nat) : (s.countSent n).rxErrors = s.rxErrors := rfl
@[simp] theorem State.countSent_cfg (n : Nat) : (s.countSent n).cfg = s.cfg := rfl
@[simp] theorem State.countSent_requests (n : Nat) : (s.countSent n).requests = s.requests := rfl
@[simp] theorem State.countSent_response (n : Nat) : (s.countSent n).response = s.response := rfl

@[simp] theorem State.receive_crc (chunk : List Byte) : (s.receive chunk).crc = s.crc := rfl
@[simp] theorem State.receive_seq (chunk : List Byte) : (s.receive chunk).seq = s.seq := rfl
@[simp] theorem State.receive_sysid (chunk : List Byte) : (s.receive chunk).sysid = s.sysid := rfl
@[simp] theorem State.receive_compid (chunk : List Byte) : (s.receive chunk).compid = s.compid := rfl
@[simp] theorem State.receive_rxbuf (chunk : List Byte) : (s.receive chunk).rxbuf = s.rxbuf ++ chunk := rfl
@[simp] theorem State.receive_expectedLen (chunk : List Byte) : (s.receive chunk).expectedLen = s.expectedLen := rfl
@[simp] theorem State.receive_pktsSent (chunk : List Byte) : (s.receive chunk).pktsSent = s.pktsSent := rfl
@[simp] theorem State.receive_bytesSent (chunk : List Byte) : (s.receive chunk).bytesSent = s.bytesSent := rfl
@[simp] theorem State.receive_pktsRcvd (chunk : List Byte) : (s.receive chunk).pktsRcvd = s.pktsRcvd := rfl
@[simp] theorem State.receive_bytesRcvd (chunk : List Byte) : (s.receive chunk).bytesRcvd = s.bytesRcvd + chunk.length := rfl
@[simp] theorem State.receive_rxErrors (chunk : List Byte) : (s.receive chunk).rxErrors = s.rxErrors := rfl
@[simp] theorem State.receive_cfg (chunk : List Byte) : (s.receive chunk).cfg = s.cfg := rfl
@[simp] theorem State.receive_requests (chunk : List Byte) : (s.receive chunk).requests = s.requests := rfl
@[simp] theorem State.receive_response (chunk : List Byte) : (s.receive chunk).response = s.response := rfl

@[simp] theorem State.dropHead_crc : (s.dropHead).crc = s.crc := rfl
@[simp] theorem State.dropHead_seq : (s.dropHead).seq = s.seq := rfl
@[simp] theorem State.dropHead_sysid : (s.dropHead).sysid = s.sysid := rfl
@[simp] theorem State.dropHead_compid : (s.dropHead).compid = s.compid := rfl
@[simp] theorem State.dropHead_rxbuf : (s.dropHead).rxbuf = s.rxbuf.drop 1 := rfl
@[simp] theorem State.dropHead_expectedLen : (s.dropHead).expectedLen = s.cfg.hs := rfl
@[simp] theorem State.dropHead_pktsSent : (s.dropHead).pktsSent = s.pktsSent := rfl
@[simp] theorem State.dropHead_bytesSent : (s.dropHead).bytesSent = s.bytesSent := rfl
@[simp] theorem State.dropHead_pktsRcvd : (s.dropHead).pktsRcvd = s.pktsRcvd := rfl
@[simp] theorem State.dropHead_bytesRcvd : (s.dropHead).bytesRcvd = s.bytesRcvd := rfl
@[simp] theorem State.dropHead_rxErrors : (s.dropHead).rxErrors = s.rxErrors + 1 := rfl
@[simp] theorem State.dropHead_cfg : (s.dropHead).cfg = s.cfg := rfl
@[simp] theorem State.dropHead_requests : (s.dropHead).requests = s.requests := rfl
@[simp] theorem State.dropHead_response : (s.dropHead).response = s.response := rfl

@[simp] theorem State.setExpected_crc (n : Nat) : (s.setExpected n).crc = s.crc := rfl
@[simp] theorem State.setExpected_seq (n : Nat) : (s.setExpected n).seq = s.seq := rfl
@[simp] theorem State.setExpected_sysid (n : Nat) : (s.setExpected n).sysid = s.sysid := rfl
@[simp] theorem State.setExpected_compid (n : Nat) : (s.setExpected n).compid = s.compid := rfl
@[simp] theorem State.setExpected_rxbuf (n : Nat) : (s.setExpected n).rxbuf = s.rxbuf := rfl
@[simp] theorem State.setExpected_expectedLen (n : Nat) : (s.setExpected n).expectedLen = n := rfl
@[simp] theorem State.setExpected_pktsSent (n : Nat) : (s.setExpected n).pktsSent = s.pktsSent := rfl
@[simp] theorem State.setExpected_bytesSent (n : Nat) : (s.setExpected n).bytesSent = s.bytesSent := rfl
@[simp] theorem State.setExpected_pktsRcvd (n : Nat) : (s.setExpected n).pktsRcvd = s.pktsRcvd := rfl
@[simp] theorem State.setExpected_bytesRcvd (n : Nat) : (s.setExpected n).bytesRcvd = s.bytesRcvd := rfl
@[simp] theorem State.setExpected_rxErrors (n : Nat) : (s.setExpected n).rxErrors = s.rxErrors := rfl
@[simp] theorem State.setExpected_cfg (n : Nat) : (s.setExpected n).cfg = s.cfg := rfl
@[simp] theorem State.setExpected_requests (n : Nat) : (s.setExpected n).requests = s.requests := rfl
@[simp] theorem State.setExpected_response (n : Nat) : (s.setExpected n).response = s.response := rfl

@[simp] theorem State.dropFrame_crc : (s.dropFrame).crc = s.crc := rfl
@[simp] theorem State.dropFrame_seq : (s.dropFrame).seq = s.seq := rfl
@[simp] theorem State.dropFrame_sysid : (s.dropFrame).sysid = s.sysid := rfl
@[simp] theorem State.dropFrame_compid : (s.dropFrame).compid = s.compid := rfl
@[simp] theorem State.dropFrame_rxbuf : (s.dropFrame).rxbuf = s.rxbuf.drop s.expectedLen := rfl
@[simp] theorem State.dropFrame_expectedLen : (s.dropFrame).expectedLen = s.cfg.hs := rfl
@[simp] theorem State.dropFrame_pktsSent : (s.dropFrame).pktsSent = s.pktsSent := rfl
@[simp] theorem State.dropFrame_bytesSent : (s.dropFrame).bytesSent = s.bytesSent := rfl
@[simp] theorem State.dropFrame_pktsRcvd : (s.dropFrame).pktsRcvd = s.pktsRcvd := rfl
@[simp] theorem State.dropFrame_bytesRcvd : (s.dropFrame).bytesRcvd = s.bytesRcvd := rfl
@[simp] theorem State.dropFrame_rxErrors : (s.dropFrame).rxErrors = s.rxErrors := rfl
@[simp] theorem State.dropFrame_cfg : (s.dropFrame).cfg = s.cfg := rfl
@[simp] theorem State.dropFrame_requests : (s.dropFrame).requests = s.requests := rfl
@[simp] theorem State.dropFrame_response : (s.dropFrame).response = s.response := rfl

@[simp] theorem State.countPacket_crc : (s.countPacket).crc = s.crc := rfl
@[simp] theorem State.countPacket_seq : (s.countPacket).seq = s.seq := rfl
@[simp] theorem State.countPacket_sysid : (s.countPacket).sysid = s.sysid := rfl
@[simp] theorem State.countPacket_compid : (s.countPacket).compid = s.compid := rfl
@[simp] theorem State.countPacket_rxbuf : (s.countPacket).rxbuf = s.rxbuf := rfl
@[simp] theorem State.countPacket_expectedLen : (s.countPacket).expectedLen = s.expectedLen := rfl
@[simp] theorem State.countPacket_pktsSent : (s.countPacket).pktsSent = s.pktsSent := rfl
@[simp] theorem State.countPacket_bytesSent : (s.countPacket).bytesSent = s.bytesSent := rfl
@[simp] theorem State.countPacket_pktsRcvd : (s.countPacket).pktsRcvd = s.pktsRcvd + 1 := rfl
@[simp] theorem State.countPacket_bytesRcvd : (s.countPacket).bytesRcvd = s.bytesRcvd := rfl
@[simp] theorem State.countPacket_rxErrors : (s.countPacket).rxErrors = s.rxErrors := rfl
@[simp] theorem State.countPacket_cfg : (s.countPacket).cfg = s.cfg := rfl
@[simp] theorem State.countPacket_requests : (s.countPacket).requests = s.requests := rfl
@[simp] theorem State.countPacket_response : (s.countPacket).response = s.response := rfl

@[simp] theorem State.countError_crc : (s.countError).crc = s.crc := rfl
@[simp] theorem State.countError_seq : (s.countError).seq = s.seq := rfl
@[simp] theorem State.countError_sysid : (s.countError).sysid = s.sysid := rfl
@[simp] theorem State.countError_compid : (s.countError).compid = s.compid := rfl
@[simp] theorem State.countError_rxbuf : (s.countError).rxbuf = s.rxbuf := rfl
@[simp] theorem State.countError_expectedLen : (s.countError).expectedLen = s.expectedLen := rfl
@[simp] theorem State.countError_pktsSent : (s.countError).pktsSent = s.pktsSent := rfl
@[simp] theorem State.countError_bytesSent : (s.countError).bytesSent = s.bytesSent := rfl
@[simp] theorem State.countError_pktsRcvd : (s.countError).pktsRcvd = s.pktsRcvd := rfl
@[simp] theorem State.countError_bytesRcvd : (s.countError).bytesRcvd = s.bytesRcvd := rfl
@[simp] theorem State.countError_rxErrors : (s.countError).rxErrors = s.rxErrors + 1 := rfl
@[simp] theorem State.countError_cfg : (s.countError).cfg = s.cfg := rfl
@[simp] theorem State.countError_requests : (s.countError).requests = s.requests := rfl
@[simp] theorem State.countError_response : (s.countError).response = s.response := rfl

@[simp] theorem State.respond_crc (r : Response) : (s.respond r).crc = s.crc := rfl
@[simp] theorem State.respond_seq (r : Response) : (s.respond r).seq = s.seq := rfl
@[simp] theorem State.respond_sysid (r : Response) : (s.respond r).sysid = s.sysid := rfl
@[simp] theorem State.respond_compid (r : Response) : (s.respond r).compid = s.compid := rfl
@[simp] theorem State.respond_rxbuf (r : Response) : (s.respond r).rxbuf = s.rxbuf := rfl
@[simp] theorem State.respond_expectedLen (r : Response) : (s.respond r).expectedLen = s.expectedLen := rfl
@[simp] theorem State.respond_pktsSent (r : Response) : (s.respond r).pktsSent = s.pktsSent := rfl
@[simp] theorem State.respond_bytesSent (r : Response) : (s.respond r).bytesSent = s.bytesSent := rfl
@[simp] theorem State.respond_pktsRcvd (r : Response) : (s.respond r).pktsRcvd = s.pktsRcvd := rfl
@[simp] theorem State.respond_bytesRcvd (r : Response) : (s.respond r).bytesRcvd = s.bytesRcvd := rfl
@[simp] theorem State.respond_rxErrors (r : Response) : (s.respond r).rxErrors = s.rxErrors := rfl
@[simp] theorem State.respond_cfg (r : Response) : (s.respond r).cfg = s.cfg := rfl
@[simp] theorem State.respond_requests (r : Response) : (s.respond r).requests = s.requests := rfl
@[simp] theorem State.respond_response (r : Response) : (s.respond r).response = some r := rfl

@[simp] theorem State.dequeue_crc : (s.dequeue).crc = s.crc := rfl
@[simp] theorem State.dequeue_seq : (s.dequeue).seq = s.seq := rfl
@[simp] theorem State.dequeue_sysid : (s.dequeue).sysid = s.sysid := rfl
@[simp] theorem State.dequeue_compid : (s.dequeue).compid = s.compid := rfl
@[simp] theorem State.dequeue_rxbuf : (s.dequeue).rxbuf = s.rxbuf := rfl
@[simp] theorem State.dequeue_expectedLen : (s.dequeue).expectedLen = s.expectedLen := rfl
@[simp] theorem State.dequeue_pktsSent : (s.dequeue).pktsSent = s.pktsSent := rfl
@[simp] theorem State.dequeue_bytesSent : (s.dequeue).bytesSent = s.bytesSent := rfl
@[simp] theorem State.dequeue_pktsRcvd : (s.dequeue).pktsRcvd = s.pktsRcvd := rfl
@[simp] theorem State.dequeue_bytesRcvd : (s.dequeue).bytesRcvd = s.bytesRcvd := rfl
@[simp] theorem State.dequeue_rxErrors : (s.dequeue).rxErrors = s.rxErrors := rfl
@[simp] theorem State.dequeue_cfg : (s.dequeue).cfg = s.cfg := rfl
@[simp] theorem State.dequeue_requests : (s.dequeue).requests = s.requests.drop 1 := rfl
@[simp] theorem State.dequeue_response : (s.dequeue).response = s.response := rfl

@[simp] theorem State.issue_crc (r : Request) : (s.issue r).crc = s.crc := rfl
@[simp] theorem State.issue_seq (r : Request) : (s.issue r).seq = s.seq := rfl
@[simp] theorem State.issue_sysid (r : Request) : (s.issue r).sysid = s.sysid := rfl
@[simp] theorem State.issue_compid (r : Request) : (s.issue r).compid = s.compid := rfl
@[simp] theorem State.issue_rxbuf (r : Request) : (s.issue r).rxbuf = s.rxbuf := rfl
@[simp] theorem State.issue_expectedLen (r : Request) : (s.issue r).expectedLen = s.expectedLen := rfl
@[simp] theorem State.issue_pktsSent (r : Request) : (s.issue r).pktsSent = s.pktsSent := rfl
@[simp] theorem State.issue_bytesSent (r : Request) : (s.issue r).bytesSent = s.bytesSent := rfl
@[simp] theorem State.issue_pktsRcvd (r : Request) : (s.issue r).pktsRcvd = s.pktsRcvd := rfl
@[simp] theorem State.issue_bytesRcvd (r : Request) : (s.issue r).bytesRcvd = s.bytesRcvd := rfl
@[simp] theorem State.issue_rxErrors (r : Request) : (s.issue r).rxErrors = s.rxErrors := rfl
@[simp] theorem State.issue_cfg (r : Request) : (s.issue r).cfg = s.cfg := rfl
@[simp] theorem State.issue_requests (r : Request) : (s.issue r).requests = s.requests ++ [r] := rfl
@[simp] theorem State.issue_response (r : Request) : (s.issue r).response = s.response := rfl

@[simp] theorem State.placeNext_crc (r : Request) : (s.placeNext r).crc = s.crc := rfl
@[simp] theorem State.placeNext_seq (r : Request) : (s.placeNext r).seq = s.seq := rfl
@[simp] theorem State.placeNext_sysid (r : Request) : (s.placeNext r).sysid = s.sysid := rfl
@[simp] theorem State.placeNext_compid (r : Request) : (s.placeNext r).compid = s.compid := rfl
@[simp] theorem State.placeNext_rxbuf (r : Request) : (s.placeNext r).rxbuf = s.rxbuf := rfl
@[simp] theorem State.placeNext_expectedLen (r : Request) : (s.placeNext r).expectedLen = s.expectedLen := rfl
@[simp] theorem State.placeNext_pktsSent (r : Request) : (s.placeNext r).pktsSent = s.pktsSent := rfl
@[simp] theorem State.placeNext_bytesSent (r : Request) : (s.placeNext r).bytesSent = s.bytesSent := rfl
@[simp] theorem State.placeNext_pktsRcvd (r : Request) : (s.placeNext r).pktsRcvd = s.pktsRcvd := rfl
@[simp] theorem State.placeNext_bytesRcvd (r : Request) : (s.placeNext r).bytesRcvd = s.bytesRcvd := rfl
@[simp] theorem State.placeNext_rxErrors (r : Request) : (s.placeNext r).rxErrors = s.rxErrors := rfl
@[simp] theorem State.placeNext_cfg (r : Request) : (s.placeNext r).cfg = s.cfg := rfl
@[simp] theorem State.placeNext_requests (r : Request) : (s.placeNext r).requests = r :: s.requests := rfl
@[simp] theorem State.placeNext_response (r : Request) : (s.placeNext r).response = s.response := rfl

end Sys2Proof.Machine
end

