-- ==== Sys2Proof/Laws/Ops.lean ====
section
/-! SUPPORT. What ending an operation can do. -/

namespace Sys2Proof.Machine

@[simp] theorem ret_eq (r : Response) (s : State) : ret r s = .next (s.respond r) := rfl

@[simp] theorem raise_eq (e : Err) (s : State) : raise e s = .next (s.respond (.error e)) := rfl

@[simp] theorem deliver_ok {α : Type} (a : α) (f : α → Response) (s : State) :
    deliver (.ok a) f s = .next (s.respond (f a)) := rfl

@[simp] theorem deliver_error {α : Type} (e : Err) (f : α → Response) (s : State) :
    deliver (.error e) f s = .next (s.respond (.error e)) := rfl

/-- R141: a pure operation always has a next state, and only the response is written. -/
theorem deliver_next {α : Type} (x : Except Err α) (f : α → Response) (s : State) :
    ∃ r, deliver x f s = .next (s.respond r) ∧ ((∃ a, x = .ok a ∧ r = f a) ∨ ∃ e, x = .error e ∧ r = .error e) := by
  cases x with
  | ok a => exact ⟨f a, rfl, .inl ⟨a, rfl, rfl⟩⟩
  | error e => exact ⟨.error e, rfl, .inr ⟨e, rfl, rfl⟩⟩

end Sys2Proof.Machine
end

