-- ==== Sys2Proof/Laws/Parser.lean ====
section
/-! SUPPORT. What one pass of FEED's loop can do, and the loop unfolded once. -/

namespace Sys2Proof.Machine

@[simp] theorem discoverLength_cfg (s : State) : (discoverLength s).cfg = s.cfg := by
  unfold discoverLength
  split <;> rfl

@[simp] theorem discoverLength_rxbuf (s : State) : (discoverLength s).rxbuf = s.rxbuf := by
  unfold discoverLength
  split <;> rfl

/-- R129: with two bytes the length is known, whatever EXPECTED_LEN held. -/
theorem discoverLength_two {s : State} {b plen : Byte} {rest : List Byte} (h : s.rxbuf = b :: plen :: rest) :
    discoverLength s = s.setExpected (plen.toNat + s.cfg.hs + 2) := by
  simp [discoverLength, h]

/-- R129: with fewer than two bytes step 3 does nothing. -/
theorem discoverLength_short {s : State} (h : s.rxbuf.length < 2) : discoverLength s = s := by
  match hr : s.rxbuf with
  | [] => simp [discoverLength, hr]
  | [_] => simp [discoverLength, hr]
  | _ :: _ :: _ => simp [hr] at h

/-- R128: step 2 finds a byte exactly where the head of RXBUF is not MARKER. -/
theorem resyncByte_some {s : State} {b : Byte} :
    resyncByte s = some b ↔ ∃ rest, s.rxbuf = b :: rest ∧ b ≠ s.cfg.marker := by
  unfold resyncByte
  split
  · simp_all
  · rename_i x xs hx
    split
    · rename_i he
      constructor
      · intro h; cases h
      · rintro ⟨rest, hr, hn⟩
        rw [hx] at hr
        cases hr
        exact absurd he hn
    · rename_i hne
      constructor
      · intro h
        cases h
        exact ⟨xs, hx, hne⟩
      · rintro ⟨rest, hr, _⟩
        rw [hx] at hr
        cases hr
        rfl

theorem resyncByte_none {s : State} :
    resyncByte s = none ↔ s.rxbuf = [] ∨ s.rxbuf.head? = some s.cfg.marker := by
  unfold resyncByte
  split
  · simp_all
  · rename_i x xs hx
    split
    · simp_all
    · simp_all

theorem frameReady_iff {s : State} :
    frameReady s = true ↔ s.cfg.hs + 2 ≤ s.expectedLen ∧ s.expectedLen ≤ s.rxbuf.length := by
  simp only [frameReady, Bool.and_eq_true, decide_eq_true_eq]
  rfl

/-- R128 to R131: everything one pass can do: drop a byte, stop, yield a Message, or yield a failed candidate. -/
theorem feedPass_cases (s : State) :
    (∃ b rest, s.rxbuf = b :: rest ∧ b ≠ s.cfg.marker ∧
      feedPass s = .again s.dropHead (.event { bytes := [b], reason := .badPrefix })) ∨
    (resyncByte s = none ∧ frameReady (discoverLength s) = false ∧ feedPass s = .stop (discoverLength s)) ∨
    (∃ m, resyncByte s = none ∧ frameReady (discoverLength s) = true ∧
      decodeFrame s.cfg (s.rxbuf.take (discoverLength s).expectedLen) = .ok m ∧
      feedPass s = .again (discoverLength s).dropFrame.countPacket (.message m)) ∨
    (∃ e, resyncByte s = none ∧ frameReady (discoverLength s) = true ∧
      decodeFrame s.cfg (s.rxbuf.take (discoverLength s).expectedLen) = .error e ∧
      feedPass s = .again (discoverLength s).dropFrame.countError
        (.event { bytes := s.rxbuf.take (discoverLength s).expectedLen, reason := e })) := by
  cases hr : resyncByte s with
  | some b =>
    obtain ⟨rest, h1, h2⟩ := resyncByte_some.mp hr
    exact .inl ⟨b, rest, h1, h2, by simp [feedPass, hr]⟩
  | none =>
    cases hf : frameReady (discoverLength s) with
    | false => exact .inr (.inl ⟨rfl, rfl, by simp [feedPass, hr, extractPass, hf]⟩)
    | true =>
      cases hd : decodeFrame s.cfg (s.rxbuf.take (discoverLength s).expectedLen) with
      | ok m =>
        exact .inr (.inr (.inl ⟨m, rfl, rfl, rfl, by simp [feedPass, hr, extractPass, hf, decodePass, hd]⟩))
      | error e =>
        exact .inr (.inr (.inr ⟨e, rfl, rfl, rfl, by simp [feedPass, hr, extractPass, hf, decodePass, hd]⟩))

@[simp] theorem feedLoop_zero (s : State) : feedLoop 0 s = (s, []) := rfl

theorem feedLoop_stop {s t : State} (n : Nat) (h : feedPass s = .stop t) : feedLoop (n + 1) s = (t, []) := by
  simp [feedLoop, h]

theorem feedLoop_again {s t : State} {item : Item} (n : Nat) (h : feedPass s = .again t item) :
    feedLoop (n + 1) s = ((feedLoop n t).1, item :: (feedLoop n t).2) := by
  simp [feedLoop, h]

/-- R134: a pass that goes on leaves fewer bytes in RXBUF. -/
theorem feedPass_shrinks {s t : State} {item : Item} (h : feedPass s = .again t item) :
    t.rxbuf.length < s.rxbuf.length := by
  obtain ⟨b, rest, hb, _, hp⟩ | ⟨_, _, hp⟩ | ⟨m, _, hf, _, hp⟩ | ⟨e, _, hf, _, hp⟩ := feedPass_cases s
  · rw [hp] at h
    cases h
    simp [hb]
  · rw [hp] at h
    cases h
  · rw [hp] at h
    cases h
    have := frameReady_iff.mp hf
    simp at this ⊢
    omega
  · rw [hp] at h
    cases h
    have := frameReady_iff.mp hf
    simp at this ⊢
    omega

end Sys2Proof.Machine
end

