-- ==== Sys2Proof/Laws/PerInstr.lean ====
section
/-! SUPPORT. One lemma per constructor of Instr: the byte that its encoding begins with is the one the table prints. -/

namespace Sys2Proof

/-- The first byte of a request: the operation code, or byte 0 of a wire frame. -/
def leadByte : Request → Option Byte
  | .op code _ => some code
  | .frame _ bytes => bytes.head?

/-- The byte the row of spec/opcode_table.json begins with: the code of R63, the marker of R53 and R54, the reserved code
itself. -/
def tableLeadByte : Instr → Option Byte
  | .crcInit => some 0x01
  | .crcByte _ => some 0x02
  | .crcBuf _ => some 0x03
  | .crcSalt _ => some 0x04
  | .crcRead => some 0x05
  | .packI8 _ => some 0x10
  | .packU8 _ => some 0x11
  | .packI16 _ => some 0x12
  | .packU16 _ => some 0x13
  | .packI32 _ => some 0x14
  | .packU32 _ => some 0x15
  | .packI64 _ => some 0x16
  | .packU64 _ => some 0x17
  | .packF32 _ => some 0x18
  | .packF64 _ => some 0x19
  | .packChar _ => some 0x1A
  | .packLayout _ _ => some 0x1F
  | .unpackI8 _ _ => some 0x20
  | .unpackU8 _ _ => some 0x21
  | .unpackI16 _ _ => some 0x22
  | .unpackU16 _ _ => some 0x23
  | .unpackI32 _ _ => some 0x24
  | .unpackU32 _ _ => some 0x25
  | .unpackI64 _ _ => some 0x26
  | .unpackU64 _ _ => some 0x27
  | .unpackF32 _ _ => some 0x28
  | .unpackF64 _ _ => some 0x29
  | .unpackChar _ _ => some 0x2A
  | .unpackLayout _ _ => some 0x2F
  | .hdrPackV1 _ => some 0x30
  | .hdrPackV2 _ => some 0x31
  | .hdrUnpackV1 _ => some 0x32
  | .hdrUnpackV2 _ => some 0x33
  | .reorderD2w _ _ => some 0x40
  | .truncZ _ => some 0x41
  | .frameEnc _ _ => some 0x42
  | .sessionSent _ => some 0x43
  | .zpad _ _ => some 0x48
  | .reorderW2d _ _ => some 0x49
  | .frameDec _ => some 0x4A
  | .feed _ => some 0x50
  | .statRead => some 0x51
  | .frameV1 _ => some 0xFE
  | .frameV2 f => some f.marker
  | .reserved op => some op

/-- The encoding of the instruction begins with the byte of its row. -/
def Laws.LeadByteOfEncoding.Statement (i : Instr) : Prop := leadByte (encode i) = tableLeadByte i

theorem Laws.LeadByteOfEncoding.crcInit : Statement .crcInit := rfl
theorem Laws.LeadByteOfEncoding.crcByte (b : Byte) : Statement (.crcByte b) := rfl
theorem Laws.LeadByteOfEncoding.crcBuf (bytes : List Byte) : Statement (.crcBuf bytes) := rfl
theorem Laws.LeadByteOfEncoding.crcSalt (salt : Byte) : Statement (.crcSalt salt) := rfl
theorem Laws.LeadByteOfEncoding.crcRead : Statement .crcRead := rfl
theorem Laws.LeadByteOfEncoding.packI8 (v : BitVec 8) : Statement (.packI8 v) := rfl
theorem Laws.LeadByteOfEncoding.packU8 (v : BitVec 8) : Statement (.packU8 v) := rfl
theorem Laws.LeadByteOfEncoding.packI16 (v : BitVec 16) : Statement (.packI16 v) := rfl
theorem Laws.LeadByteOfEncoding.packU16 (v : BitVec 16) : Statement (.packU16 v) := rfl
theorem Laws.LeadByteOfEncoding.packI32 (v : BitVec 32) : Statement (.packI32 v) := rfl
theorem Laws.LeadByteOfEncoding.packU32 (v : BitVec 32) : Statement (.packU32 v) := rfl
theorem Laws.LeadByteOfEncoding.packI64 (v : BitVec 64) : Statement (.packI64 v) := rfl
theorem Laws.LeadByteOfEncoding.packU64 (v : BitVec 64) : Statement (.packU64 v) := rfl
theorem Laws.LeadByteOfEncoding.packF32 (v : BitVec 32) : Statement (.packF32 v) := rfl
theorem Laws.LeadByteOfEncoding.packF64 (v : BitVec 64) : Statement (.packF64 v) := rfl
theorem Laws.LeadByteOfEncoding.packChar (v : BitVec 8) : Statement (.packChar v) := rfl
theorem Laws.LeadByteOfEncoding.packLayout (layout : List Slot) (vals : List Value) : Statement (.packLayout layout vals) := rfl
theorem Laws.LeadByteOfEncoding.unpackI8 (bytes : List Byte) (off : Nat) : Statement (.unpackI8 bytes off) := rfl
theorem Laws.LeadByteOfEncoding.unpackU8 (bytes : List Byte) (off : Nat) : Statement (.unpackU8 bytes off) := rfl
theorem Laws.LeadByteOfEncoding.unpackI16 (bytes : List Byte) (off : Nat) : Statement (.unpackI16 bytes off) := rfl
theorem Laws.LeadByteOfEncoding.unpackU16 (bytes : List Byte) (off : Nat) : Statement (.unpackU16 bytes off) := rfl
theorem Laws.LeadByteOfEncoding.unpackI32 (bytes : List Byte) (off : Nat) : Statement (.unpackI32 bytes off) := rfl
theorem Laws.LeadByteOfEncoding.unpackU32 (bytes : List Byte) (off : Nat) : Statement (.unpackU32 bytes off) := rfl
theorem Laws.LeadByteOfEncoding.unpackI64 (bytes : List Byte) (off : Nat) : Statement (.unpackI64 bytes off) := rfl
theorem Laws.LeadByteOfEncoding.unpackU64 (bytes : List Byte) (off : Nat) : Statement (.unpackU64 bytes off) := rfl
theorem Laws.LeadByteOfEncoding.unpackF32 (bytes : List Byte) (off : Nat) : Statement (.unpackF32 bytes off) := rfl
theorem Laws.LeadByteOfEncoding.unpackF64 (bytes : List Byte) (off : Nat) : Statement (.unpackF64 bytes off) := rfl
theorem Laws.LeadByteOfEncoding.unpackChar (bytes : List Byte) (off : Nat) : Statement (.unpackChar bytes off) := rfl
theorem Laws.LeadByteOfEncoding.unpackLayout (layout : List Slot) (bytes : List Byte) : Statement (.unpackLayout layout bytes) := rfl
theorem Laws.LeadByteOfEncoding.hdrPackV1 (h : Header) : Statement (.hdrPackV1 h) := rfl
theorem Laws.LeadByteOfEncoding.hdrPackV2 (h : Header) : Statement (.hdrPackV2 h) := rfl
theorem Laws.LeadByteOfEncoding.hdrUnpackV1 (bytes : List Byte) : Statement (.hdrUnpackV1 bytes) := rfl
theorem Laws.LeadByteOfEncoding.hdrUnpackV2 (bytes : List Byte) : Statement (.hdrUnpackV2 bytes) := rfl
theorem Laws.LeadByteOfEncoding.reorderD2w (d : Descriptor) (vals : List Value) : Statement (.reorderD2w d vals) := rfl
theorem Laws.LeadByteOfEncoding.truncZ (payload : List Byte) : Statement (.truncZ payload) := rfl
theorem Laws.LeadByteOfEncoding.frameEnc (d : Descriptor) (vals : List Value) : Statement (.frameEnc d vals) := rfl
theorem Laws.LeadByteOfEncoding.sessionSent (n : Nat) : Statement (.sessionSent n) := rfl
theorem Laws.LeadByteOfEncoding.zpad (payload : List Byte) (n : Nat) : Statement (.zpad payload n) := rfl
theorem Laws.LeadByteOfEncoding.reorderW2d (d : Descriptor) (flat : List Pattern) : Statement (.reorderW2d d flat) := rfl
theorem Laws.LeadByteOfEncoding.frameDec (cand : List Byte) : Statement (.frameDec cand) := rfl
theorem Laws.LeadByteOfEncoding.feed (chunk : List Byte) : Statement (.feed chunk) := rfl
theorem Laws.LeadByteOfEncoding.statRead : Statement .statRead := rfl
theorem Laws.LeadByteOfEncoding.frameV1 (f : WireV1) : Statement (.frameV1 f) := rfl
theorem Laws.LeadByteOfEncoding.frameV2 (f : WireV2) : Statement (.frameV2 f) := rfl
theorem Laws.LeadByteOfEncoding.reserved (op : Byte) : Statement (.reserved op) := rfl

end Sys2Proof
end

