-- ==== Sys2Proof/Laws/Step.lean ====
section
/-! SUPPORT. The three things a step can be. -/

namespace Sys2Proof.Machine

theorem step_idle {s : State} (h : s.nextRequest = none) : step s = .next s := by simp [step, h, idle]

theorem step_decoded {s : State} {r : Request} {i : Instr} (h : s.nextRequest = some r) (hd : decode r = .ok i) :
    step s = exec i s.dequeue := by
  simp [step, h, hd]

theorem step_rejected {s : State} {r : Request} {e : DecodeError} (h : s.nextRequest = some r)
    (hd : decode r = .error e) : step s = .refused (refuseRequest e) := by
  simp [step, h, hd]

/-- A step that has a next state was idle or performed the instruction its request decodes to. -/
theorem step_next {s t : State} (h : step s = .next t) :
    (s.nextRequest = none ∧ t = s) ∨
    ∃ r i, s.nextRequest = some r ∧ decode r = .ok i ∧ exec i s.dequeue = .next t := by
  cases hr : s.nextRequest with
  | none =>
    rw [step_idle hr] at h
    cases h
    exact .inl ⟨rfl, rfl⟩
  | some r =>
    cases hd : decode r with
    | ok i => exact .inr ⟨r, i, rfl, hd, by rwa [step_decoded hr hd] at h⟩
    | error e =>
      rw [step_rejected hr hd] at h
      cases h

end Sys2Proof.Machine
end

