-- ==== Sys2Proof/Machine/Flags.lean ====
section
/-! DEFINITION. The hardware has no flags and no condition codes (R36). What an operation reports is its response;
this file holds the response's numeric code (R140: code 0 is success). -/

namespace Sys2Proof.Machine

/-- R140: the numeric code of an error. -/
def Err.code : Err → Nat
  | .badPrefix => 1
  | .headerUnderrun => 2
  | .badMarker _ => 3
  | .lengthMismatch _ _ => 4
  | .unknownMessageId _ => 5
  | .checksumMismatch _ _ => 6
  | .truncatedPayload => 7
  | .messageIdRange _ => 8
  | .payloadTooLong _ => 9
  | .valueShape => 10
  | .unknownOp _ => 11

/-- R140: "code 0 is success". -/
def Response.code : Response → Nat
  | .error e => e.code
  | _ => 0

end Sys2Proof.Machine
end

