-- ==== Sys2Proof/Machine/Written.lean ====
section
/-! DEFINITION. The written form of an operation, 30_encoding.md R65 (log 22). Nothing the machine does depends on it. -/

namespace Sys2Proof.Machine

/-- R63 and the table: the mnemonic of each row. -/
def mnemonic : Instr → String
  | .crcInit => "CRC.INIT"
  | .crcByte _ => "CRC.BYTE"
  | .crcBuf _ => "CRC.BUF"
  | .crcSalt _ => "CRC.SALT"
  | .crcRead => "CRC.READ"
  | .packI8 _ => "PACK.I8"
  | .packU8 _ => "PACK.U8"
  | .packI16 _ => "PACK.I16"
  | .packU16 _ => "PACK.U16"
  | .packI32 _ => "PACK.I32"
  | .packU32 _ => "PACK.U32"
  | .packI64 _ => "PACK.I64"
  | .packU64 _ => "PACK.U64"
  | .packF32 _ => "PACK.F32"
  | .packF64 _ => "PACK.F64"
  | .packChar _ => "PACK.CHAR"
  | .packLayout _ _ => "PACK.LAYOUT"
  | .unpackI8 _ _ => "UNPACK.I8"
  | .unpackU8 _ _ => "UNPACK.U8"
  | .unpackI16 _ _ => "UNPACK.I16"
  | .unpackU16 _ _ => "UNPACK.U16"
  | .unpackI32 _ _ => "UNPACK.I32"
  | .unpackU32 _ _ => "UNPACK.U32"
  | .unpackI64 _ _ => "UNPACK.I64"
  | .unpackU64 _ _ => "UNPACK.U64"
  | .unpackF32 _ _ => "UNPACK.F32"
  | .unpackF64 _ _ => "UNPACK.F64"
  | .unpackChar _ _ => "UNPACK.CHAR"
  | .unpackLayout _ _ => "UNPACK.LAYOUT"
  | .hdrPackV1 _ => "HDR.PACK.V1"
  | .hdrPackV2 _ => "HDR.PACK.V2"
  | .hdrUnpackV1 _ => "HDR.UNPACK.V1"
  | .hdrUnpackV2 _ => "HDR.UNPACK.V2"
  | .reorderD2w _ _ => "REORDER.D2W"
  | .truncZ _ => "TRUNC.Z"
  | .frameEnc _ _ => "FRAME.ENC"
  | .sessionSent _ => "SESSION.SENT"
  | .zpad _ _ => "ZPAD"
  | .reorderW2d _ _ => "REORDER.W2D"
  | .frameDec _ => "FRAME.DEC"
  | .feed _ => "FEED"
  | .statRead => "STAT.READ"
  | .frameV1 _ => "FRAME.V1"
  | .frameV2 _ => "FRAME.V2"
  | .reserved _ => "(reserved)"

/-- One hexadecimal digit. -/
def hexDigit (n : Nat) : String := ("0123456789ABCDEF".toList.getD n '0').toString

/-- n hexadecimal digits of v, the most significant first. -/
def hex : Nat → Nat → String
  | 0, _ => ""
  | n + 1, v => hex n (v / 16) ++ hexDigit (v % 16)

/-- R65: "byte sequences are written as hexadecimal bytes separated by spaces inside square brackets". -/
def writtenBytes (S : List Byte) : String := "[" ++ " ".intercalate (S.map fun b => hex 2 b.toNat) ++ "]"

/-- A list in brackets with commas, as 95_test_vectors.md writes value lists. -/
def writtenList (xs : List String) : String := "[" ++ ", ".intercalate xs ++ "]"

/-- A pattern as hexadecimal digits of its width. -/
def writtenPattern : Pattern → String
  | .b8 v => hex 2 v.toNat
  | .b16 v => hex 4 v.toNat
  | .b32 v => hex 8 v.toNat
  | .b64 v => hex 16 v.toNat

/-- The name of a kind (R59). -/
def writtenKind : Kind → String
  | .i8 => "I8"
  | .u8 => "U8"
  | .i16 => "I16"
  | .u16 => "U16"
  | .i32 => "I32"
  | .u32 => "U32"
  | .i64 => "I64"
  | .u64 => "U64"
  | .f32 => "F32"
  | .f64 => "F64"
  | .char => "CHAR"

/-- A slot, `(kind,alen)`. -/
def writtenSlot (sl : Slot) : String := "(" ++ writtenKind sl.kind ++ "," ++ toString sl.alen ++ ")"

/-- A field value: a scalar, or an array in brackets. -/
def writtenValue : Value → String
  | .scalar p => writtenPattern p
  | .array ps => writtenList (ps.map writtenPattern)

/-- A header record, field by field in the order of R32. -/
def writtenHeader (h : Header) : String :=
  "(marker " ++ hex 2 h.marker.toNat ++ ", plen " ++ toString h.plen.toNat ++ ", seq " ++ hex 2 h.seq.toNat ++
    ", sysid " ++ hex 2 h.sysid.toNat ++ ", compid " ++ hex 2 h.compid.toNat ++ ", msgid " ++ hex 6 h.msgid.toNat ++
    ", incompat " ++ hex 2 h.incompatFlags.toNat ++ ", compat " ++ hex 2 h.compatFlags.toNat ++ ")"

/-- R65: an operand; a descriptor is written by the name its user gives it. -/
def writtenOperand (nameOf : Descriptor → String) : Operand → String
  | .byte b => hex 2 b.toNat
  | .word16 v => hex 4 v.toNat
  | .word32 v => hex 8 v.toNat
  | .word64 v => hex 16 v.toNat
  | .nat n => toString n
  | .bytes S => writtenBytes S
  | .layout L => writtenList (L.map writtenSlot)
  | .values V => writtenList (V.map writtenValue)
  | .flat T => writtenList (T.map writtenPattern)
  | .descriptor d => nameOf d
  | .header h => writtenHeader h

/-- The operands of a request, in the order of R63; a wire frame's bytes are its one operand. -/
def requestOperands : Request → List Operand
  | .op _ args => args
  | .frame _ bytes => [.bytes bytes]

/-- R65: `MNEMONIC operand, operand`. -/
def written (nameOf : Descriptor → String) (i : Instr) : String :=
  match (requestOperands (encode i)).map (writtenOperand nameOf) with
  | [] => mnemonic i
  | ops => mnemonic i ++ " " ++ ", ".intercalate ops

end Sys2Proof.Machine
end

