-- ==== Sys2Proof/Tests/Slice0.lean ====
section
/-! SUPPORT. Tests. Expected values are those of spec/95_test_vectors.md (the V or P number stands with each), words
are written out from the encodings of 30_encoding.md, and every statement with hypotheses has its witnesses, at the
boundaries of its clauses. -/

namespace Sys2Proof.Tests

open Sys2Proof Sys2Proof.Machine

/-! ## Descriptors, sessions and frames of 95_test_vectors.md -/

def d0 : Descriptor := ⟨0, 50, [⟨.u8, 0⟩], [⟨"value", ⟨.u8, 0⟩⟩], [0], none⟩

def dA : Descriptor :=
  ⟨33, 104, [⟨.u32, 0⟩, ⟨.u16, 0⟩, ⟨.u8, 0⟩, ⟨.i8, 3⟩],
    [⟨"a", ⟨.u8, 0⟩⟩, ⟨"b", ⟨.u32, 0⟩⟩, ⟨"c", ⟨.u16, 0⟩⟩, ⟨"d", ⟨.i8, 3⟩⟩], [2, 0, 1, 3], none⟩

def dB : Descriptor :=
  ⟨0x012345, 7, [⟨.u32, 0⟩, ⟨.u16, 3⟩, ⟨.u8, 0⟩],
    [⟨"n", ⟨.u8, 0⟩⟩, ⟨"xs", ⟨.u16, 3⟩⟩, ⟨"t", ⟨.u32, 0⟩⟩], [2, 1, 0], none⟩

def dE : Descriptor := ⟨200, 0, [], [], [], none⟩

def dL : Descriptor :=
  ⟨1, 0, [⟨.u8, 255⟩, ⟨.u8, 0⟩], [⟨"a", ⟨.u8, 255⟩⟩, ⟨"b", ⟨.u8, 0⟩⟩], [0, 1], none⟩

/-- Session (v, sys, comp, REG) of 95_test_vectors.md, at reset. -/
def sess (v : Version) (sysid compid : Byte) (reg : List Descriptor) : State :=
  State.construct { version := v, markerV2 := 0xFD, registry := reg } sysid compid

def s1 : State := sess .v1 42 150 [d0]

def s2 : State := { sess .v2 9 8 [dB] with seq := 255 }

def vA : List Value := [.scalar (.b8 0x11), .scalar (.b32 0xDEADBEEF), .scalar (.b16 0xCAFE), .array [.b8 0xFF, .b8 0, .b8 0x7F]]

def wA : List Value := [.scalar (.b32 0xDEADBEEF), .scalar (.b16 0xCAFE), .scalar (.b8 0x11), .array [.b8 0xFF, .b8 0, .b8 0x7F]]

def vB : List Value := [.scalar (.b8 0), .array [.b16 0x0102, .b16 0, .b16 0], .scalar (.b32 0xA0B)]

def wB : List Value := [.scalar (.b32 0xA0B), .array [.b16 0x0102, .b16 0, .b16 0], .scalar (.b8 0)]

def flatB : List Pattern := [.b32 0xA0B, .b16 0x0102, .b16 0, .b16 0, .b8 0]

def msg7 : Message := ⟨0, [.scalar (.b8 7)]⟩

/-- V1: the frame of D0's scenario. -/
def F : List Byte := [0xFE, 0x01, 0x00, 0x2A, 0x96, 0x00, 0x07, 0xAF, 0x3A]

/-- V7: the truncated frame. -/
def FB : List Byte :=
  [0xFD, 0x06, 0x00, 0x00, 0xFF, 0x09, 0x08, 0x45, 0x23, 0x01, 0x0B, 0x0A, 0x00, 0x00, 0x02, 0x01, 0xAC, 0xCA]

/-- V17: three payload bytes where the layout has ten, checksum right. -/
def C17 : List Byte := [0xFE, 0x03, 0x00, 0x01, 0x02, 0x21, 0x01, 0x02, 0x03, 0x6C, 0x08]

/-- V27: F with a payload bit flipped. -/
def G : List Byte := [0xFE, 0x01, 0x00, 0x2A, 0x96, 0x00, 0x06, 0xAF, 0x3A]

/-- A session for a request: `r` waits in the queue. -/
def s1with (r : Request) : State := { s1 with requests := [r] }

/-! ## WellFormed refuses each ill-formed term -/

theorem test_wf_accepts_the_spec_descriptors :
    d0.WellFormed ∧ dA.WellFormed ∧ dB.WellFormed ∧ dE.WellFormed ∧ dL.WellFormed := by decide
theorem test_wf_refuses_repeated_wire_slot : ¬ { dB with orderMap := [2, 1, 2] }.WellFormed := by decide
theorem test_wf_refuses_wire_slot_out_of_range : ¬ { dB with orderMap := [2, 1, 3] }.WellFormed := by decide
theorem test_wf_refuses_short_order_map : ¬ { dB with orderMap := [2, 1] }.WellFormed := by decide
theorem test_wf_refuses_missing_wire_slot : ¬ { d0 with wire := [] }.WellFormed := by decide
theorem test_wf_refuses_slot_of_another_kind : ¬ { dA with orderMap := [2, 1, 0, 3] }.WellFormed := by decide
theorem test_wf_refuses_slot_of_another_length : ¬ { d0 with wire := [⟨.u8, 1⟩] }.WellFormed := by decide
theorem test_wf_registry_refuses_repeated_id :
    ¬ Config.WellFormed ⟨.v1, 0xFD, [d0, { dA with id := 0 }]⟩ := by decide
theorem test_wf_registry_refuses_ill_formed_descriptor :
    ¬ Config.WellFormed ⟨.v1, 0xFD, [d0, { dB with orderMap := [2, 1] }]⟩ := by decide
theorem test_wf_instr_refuses_ill_formed_descriptors :
    Instr.wf (.frameEnc { dB with orderMap := [0, 0, 0] } vB) = false ∧
    Instr.wf (.reorderD2w { dB with orderMap := [] } vB) = false ∧
    Instr.wf (.reorderW2d { d0 with declared := [] } []) = false := by decide
theorem test_wf_instr_refuses_a_listed_code_as_reserved :
    Instr.wf (.reserved 0x05) = false ∧ Instr.wf (.reserved 0x51) = false := by decide
theorem test_wf_instr_refuses_long_wire_payloads :
    Instr.wf (.frameV1 ⟨0, 0, 0, 0, List.replicate 256 0, 0⟩) = false ∧
    Instr.wf (.frameV2 ⟨0xFD, 0, 0, 0, 0, 0, 0, List.replicate 256 0, 0⟩) = false ∧
    Instr.wf (.frameV1 ⟨0, 0, 0, 0, List.replicate 255 0, 0⟩) = true := by decide +kernel

/-! ## Decode: every constructor's word, its code as R63 prints it -/

theorem test_decode_crc :
    decode (.op 0b00000001 []) = .ok .crcInit ∧ decode (.op 0b00000010 [.byte 7]) = .ok (.crcByte 7) ∧
    decode (.op 0b00000011 [.bytes [1, 2]]) = .ok (.crcBuf [1, 2]) ∧
    decode (.op 0b00000100 [.byte 0x32]) = .ok (.crcSalt 0x32) ∧ decode (.op 0b00000101 []) = .ok .crcRead :=
  ⟨rfl, rfl, rfl, rfl, rfl⟩
/-- R62: `OP = 0001kkkk` with the kind code of R59. -/
theorem test_decode_pack :
    decode (.op 0b00010000 [.byte 1]) = .ok (.packI8 1) ∧ decode (.op 0b00010001 [.byte 1]) = .ok (.packU8 1) ∧
    decode (.op 0b00010010 [.word16 1]) = .ok (.packI16 1) ∧ decode (.op 0b00010011 [.word16 1]) = .ok (.packU16 1) ∧
    decode (.op 0b00010100 [.word32 1]) = .ok (.packI32 1) ∧ decode (.op 0b00010101 [.word32 1]) = .ok (.packU32 1) ∧
    decode (.op 0b00010110 [.word64 1]) = .ok (.packI64 1) ∧ decode (.op 0b00010111 [.word64 1]) = .ok (.packU64 1) ∧
    decode (.op 0b00011000 [.word32 1]) = .ok (.packF32 1) ∧ decode (.op 0b00011001 [.word64 1]) = .ok (.packF64 1) ∧
    decode (.op 0b00011010 [.byte 1]) = .ok (.packChar 1) ∧
    decode (.op 0b00011111 [.layout dB.wire, .values wB]) = .ok (.packLayout dB.wire wB) :=
  ⟨rfl, rfl, rfl, rfl, rfl, rfl, rfl, rfl, rfl, rfl, rfl, rfl⟩
/-- R62: `OP = 0010kkkk` with the kind code of R59. -/
theorem test_decode_unpack :
    decode (.op 0b00100000 [.bytes [9], .nat 1]) = .ok (.unpackI8 [9] 1) ∧
    decode (.op 0b00100001 [.bytes [9], .nat 1]) = .ok (.unpackU8 [9] 1) ∧
    decode (.op 0b00100010 [.bytes [9], .nat 1]) = .ok (.unpackI16 [9] 1) ∧
    decode (.op 0b00100011 [.bytes [9], .nat 1]) = .ok (.unpackU16 [9] 1) ∧
    decode (.op 0b00100100 [.bytes [9], .nat 1]) = .ok (.unpackI32 [9] 1) ∧
    decode (.op 0b00100101 [.bytes [9], .nat 1]) = .ok (.unpackU32 [9] 1) ∧
    decode (.op 0b00100110 [.bytes [9], .nat 1]) = .ok (.unpackI64 [9] 1) ∧
    decode (.op 0b00100111 [.bytes [9], .nat 1]) = .ok (.unpackU64 [9] 1) ∧
    decode (.op 0b00101000 [.bytes [9], .nat 1]) = .ok (.unpackF32 [9] 1) ∧
    decode (.op 0b00101001 [.bytes [9], .nat 1]) = .ok (.unpackF64 [9] 1) ∧
    decode (.op 0b00101010 [.bytes [9], .nat 1]) = .ok (.unpackChar [9] 1) ∧
    decode (.op 0b00101111 [.layout dB.wire, .bytes [9]]) = .ok (.unpackLayout dB.wire [9]) :=
  ⟨rfl, rfl, rfl, rfl, rfl, rfl, rfl, rfl, rfl, rfl, rfl, rfl⟩
theorem test_decode_header :
    decode (.op 0b00110000 [.header zeroHeader]) = .ok (.hdrPackV1 zeroHeader) ∧
    decode (.op 0b00110001 [.header zeroHeader]) = .ok (.hdrPackV2 zeroHeader) ∧
    decode (.op 0b00110010 [.bytes F]) = .ok (.hdrUnpackV1 F) ∧
    decode (.op 0b00110011 [.bytes F]) = .ok (.hdrUnpackV2 F) := ⟨rfl, rfl, rfl, rfl⟩
theorem test_decode_framer :
    decode (.op 0b01000000 [.descriptor dA, .values vA]) = .ok (.reorderD2w dA vA) ∧
    decode (.op 0b01000001 [.bytes F]) = .ok (.truncZ F) ∧
    decode (.op 0b01000010 [.descriptor dA, .values vA]) = .ok (.frameEnc dA vA) ∧
    decode (.op 0b01000011 [.nat 9]) = .ok (.sessionSent 9) ∧
    decode (.op 0b01001000 [.bytes F, .nat 9]) = .ok (.zpad F 9) ∧
    decode (.op 0b01001001 [.descriptor dB, .flat flatB]) = .ok (.reorderW2d dB flatB) ∧
    decode (.op 0b01001010 [.bytes F]) = .ok (.frameDec F) := ⟨rfl, rfl, rfl, rfl, rfl, rfl, rfl⟩
theorem test_decode_stream :
    decode (.op 0b01010000 [.bytes F]) = .ok (.feed F) ∧ decode (.op 0b01010001 []) = .ok .statRead := ⟨rfl, rfl⟩
/-- R53, byte by byte: the bytes of V1. -/
theorem test_decode_wire_v1 : decode (.frame .v1 F) = .ok (.frameV1 ⟨0, 0x2A, 0x96, 0, [7], 0x3AAF⟩) := rfl
/-- R54, byte by byte: the bytes of V7. -/
theorem test_decode_wire_v2 :
    decode (.frame .v2 FB) = .ok (.frameV2 ⟨0xFD, 0, 0, 0xFF, 9, 8, 0x012345, [0x0B, 0x0A, 0, 0, 2, 1], 0xCAAC⟩) := rfl
/-- R64: the ends of each reserved range. -/
theorem test_decode_reserved :
    (([0x00, 0x06, 0x0F, 0x1B, 0x1E, 0x2B, 0x2E, 0x34, 0x3F, 0x44, 0x47, 0x4B, 0x4F, 0x52, 0xFF] : List Byte).all
      fun op => decide (decode (.op op []) = .ok (.reserved op))) = true := by decide +kernel
/-- Log 8, log 10. -/
theorem test_decode_rejects_by_name :
    decode (.op 0x02 []) = .error (.operandShape 0x02) ∧ decode (.op 0x12 [.byte 1]) = .error (.operandShape 0x12) ∧
    decode (.frame .v1 (F.take 8)) = .error .notAFrame ∧ decode (.frame .v1 (0xFD :: F.drop 1)) = .error .notAFrame ∧
    decode (.frame .v2 (FB.take 9)) = .error .notAFrame := ⟨rfl, rfl, rfl, rfl, rfl⟩
/-- A code's row, and a wire row whose bytes stand in a number, first byte lowest. -/
theorem test_decode_table_word :
    decodeTableWord 8 0x43 = some (.sessionSent 0) ∧ decodeTableWord 8 0x06 = some (.reserved 6) ∧
    decodeTableWord 72 0x3AAF0700962A0001FE = some (.frameV1 ⟨0, 0x2A, 0x96, 0, [7], 0x3AAF⟩) :=
  ⟨rfl, rfl, rfl⟩
theorem test_withFetchWord_runs_the_row :
    step (State.reset.withFetchWord 8 0x01) = exec .crcInit State.reset ∧
    step (State.reset.withFetchWord 8 0x50) = exec (.feed []) State.reset ∧
    step (State.reset.withFetchWord 48 0xFE) = exec (.frameV1 ⟨0, 0, 0, 0, [], 0⟩) State.reset := ⟨rfl, rfl, rfl⟩

/-! ## Vectors, at most two per instruction -/

/-- V5a. -/
theorem test_crc_init : exec .crcInit { s1 with crc := 0xE960 } = .next { s1 with response := some .done } := rfl
/-- V2, V5a: state 1E0E, byte 00. -/
theorem test_crc_byte : exec (.crcByte 0) { s1 with crc := 0x1E0E } = .next { s1 with crc := 0xE960, response := some .done } := rfl
/-- V2: state 0000, byte 80 gives the polynomial. -/
theorem test_crc_byte_poly : exec (.crcByte 0x80) { s1 with crc := 0 } = .next { s1 with crc := 0x8408, response := some .done } := rfl
/-- V5a. -/
theorem test_crc_buf :
    exec (.crcBuf [1, 0, 0x2A, 0x96, 0, 7]) s1 = .next { s1 with crc := 0x74B9, response := some .done } := rfl
/-- V3: the check value. -/
theorem test_crc_buf_check :
    exec (.crcBuf [0x31, 0x32, 0x33, 0x34, 0x35, 0x36, 0x37, 0x38, 0x39]) s1 =
      .next { s1 with crc := 0x6F91, response := some .done } := rfl
/-- V5a, with the salt of d0 and another one. -/
theorem test_crc_salt :
    exec (.crcSalt 0x32) { s1 with crc := 0x74B9 } = .next { s1 with crc := 0x3AAF, response := some .done } ∧
    exec (.crcSalt 0x33) { s1 with crc := 0x74B9 } = .next { s1 with crc := 0x2B26, response := some .done } := ⟨rfl, rfl⟩
/-- V5a. -/
theorem test_crc_read : Answers .crcRead { s1 with crc := 0x3AAF } (.crc 0x3AAF) := rfl
/-- V4: the table and the bitwise form. -/
theorem test_crc_forms :
    crcTableStep 0xFFFF 1 = 0x1E0E ∧ crcTableStep 0x74B9 0x32 = 0x3AAF ∧ crcBitwise 0xFFFF 1 0x8408 = 0x1E0E := by
  decide +kernel
/-- V5. -/
theorem test_pack_elements :
    Answers (.packI8 0xFF) s1 (.bytes [0xFF]) ∧ Answers (.packU8 7) s1 (.bytes [7]) ∧
    Answers (.packI16 0xFFFE) s1 (.bytes [0xFE, 0xFF]) ∧ Answers (.packU16 0xCAFE) s1 (.bytes [0xFE, 0xCA]) ∧
    Answers (.packI32 0x80000000) s1 (.bytes [0, 0, 0, 0x80]) ∧
    Answers (.packU32 0xDEADBEEF) s1 (.bytes [0xEF, 0xBE, 0xAD, 0xDE]) ∧
    Answers (.packI64 0xFFFFFFFFFFFFFFFE) s1 (.bytes [0xFE, 0xFF, 0xFF, 0xFF, 0xFF, 0xFF, 0xFF, 0xFF]) ∧
    Answers (.packU64 0x0102030405060708) s1 (.bytes [8, 7, 6, 5, 4, 3, 2, 1]) ∧
    Answers (.packF32 0x7FC00001) s1 (.bytes [1, 0, 0xC0, 0x7F]) ∧
    Answers (.packF64 0xC004000000000000) s1 (.bytes [0, 0, 0, 0, 0, 0, 4, 0xC0]) ∧
    Answers (.packChar 0x41) s1 (.bytes [0x41]) := ⟨rfl, rfl, rfl, rfl, rfl, rfl, rfl, rfl, rfl, rfl, rfl⟩
/-- V5. -/
theorem test_unpack_elements :
    Answers (.unpackU32 [0x11, 0xEF, 0xBE, 0xAD, 0xDE] 1) s1 (.pattern (.b32 0xDEADBEEF)) ∧
    Answers (.unpackI16 [0xFE, 0xFF] 0) s1 (.pattern (.b16 0xFFFE)) ∧
    Answers (.unpackI16 [0xFE] 0) s1 (.error .truncatedPayload) ∧
    Answers (.unpackU8 [7] 1) s1 (.error .truncatedPayload) ∧
    Answers (.unpackU64 [8, 7, 6, 5, 4, 3, 2] 0) s1 (.error .truncatedPayload) ∧
    Answers (.unpackChar [0x41, 0] 1) s1 (.pattern (.b8 0)) ∧
    Answers (.unpackF32 [0, 0, 0x80, 0x3F] 0) s1 (.pattern (.b32 0x3F800000)) := ⟨rfl, rfl, rfl, rfl, rfl, rfl, rfl⟩
/-- The packs of V5 read back (R79, inverse). -/
theorem test_unpack_other_elements :
    Answers (.unpackI8 [0xFF] 0) s1 (.pattern (.b8 0xFF)) ∧
    Answers (.unpackU16 [0xFE, 0xCA] 0) s1 (.pattern (.b16 0xCAFE)) ∧
    Answers (.unpackI32 [0, 0, 0, 0x80] 0) s1 (.pattern (.b32 0x80000000)) ∧
    Answers (.unpackI64 [0xFE, 0xFF, 0xFF, 0xFF, 0xFF, 0xFF, 0xFF, 0xFF] 0) s1 (.pattern (.b64 0xFFFFFFFFFFFFFFFE)) ∧
    Answers (.unpackF64 [0, 0, 0, 0, 0, 0, 4, 0xC0] 0) s1 (.pattern (.b64 0xC004000000000000)) ∧
    Answers (.unpackI32 [1, 2, 3] 7) s1 (.error .truncatedPayload) := ⟨rfl, rfl, rfl, rfl, rfl, rfl⟩
/-- R59 and log 21: the readings of one pattern. -/
theorem test_readings :
    Kind.reading .i8 (.b8 0xFF) = some (-1) ∧ Kind.reading .u8 (.b8 0xFF) = some 255 ∧
    Kind.reading .char (.b8 0xFF) = none ∧ Kind.reading .f32 (.b32 0) = none ∧
    (sext 16 (0x80 : BitVec 8)) = 0xFF80 := by decide
/-- V6. -/
theorem test_pack_layout :
    Answers (.packLayout dB.wire wB) s1 (.bytes [0x0B, 0x0A, 0, 0, 2, 1, 0, 0, 0, 0, 0]) ∧
    Answers (.packLayout [] []) s1 (.bytes []) := ⟨rfl, rfl⟩
/-- V6, and a pattern of another width (log 12). -/
theorem test_pack_layout_refuses :
    Answers (.packLayout dB.wire [.scalar (.b32 0xA0B), .array [.b16 0x0102, .b16 0], .scalar (.b8 0)]) s1 (.error .valueShape) ∧
    Answers (.packLayout dB.wire [.scalar (.b32 0xA0B), .scalar (.b16 0x0102), .scalar (.b8 0)]) s1 (.error .valueShape) ∧
    Answers (.packLayout dB.wire (wB.take 2)) s1 (.error .valueShape) ∧
    Answers (.packLayout d0.wire [.scalar (.b16 7)]) s1 (.error .valueShape) := ⟨rfl, rfl, rfl, rfl⟩
/-- V6. -/
theorem test_unpack_layout :
    Answers (.unpackLayout dB.wire [0x0B, 0x0A, 0, 0, 2, 1, 0, 0, 0, 0, 0, 0x99, 0x99]) s1 (.flat flatB) ∧
    Answers (.unpackLayout dB.wire [0x0B, 0x0A, 0, 0, 2, 1, 0, 0, 0, 0]) s1 (.error .truncatedPayload) := ⟨rfl, rfl⟩
/-- V22. -/
theorem test_hdr_pack_v1 :
    Answers (.hdrPackV1 ⟨0xFE, 1, 0, 0x2A, 0x96, 0, 0, 0⟩) s2 (.bytes [0xFE, 1, 0, 0x2A, 0x96, 0]) ∧
    Answers (.hdrPackV1 ⟨0xFE, 1, 0, 0x2A, 0x96, 256, 0, 0⟩) s1 (.error (.messageIdRange 256)) := ⟨rfl, rfl⟩
/-- V22. -/
theorem test_hdr_pack_v2 :
    Answers (.hdrPackV2 ⟨0xFD, 6, 0xFF, 9, 8, 0x012345, 0, 0⟩) s1
      (.bytes [0xFD, 6, 0, 0, 0xFF, 9, 8, 0x45, 0x23, 1]) := rfl
/-- V22. -/
theorem test_hdr_unpack_v1 :
    Answers (.hdrUnpackV1 [0, 1, 2, 3, 4, 5]) s1 (.header ⟨0, 1, 2, 3, 4, 5, 0, 0⟩) ∧
    Answers (.hdrUnpackV1 [0xFE, 1, 0, 0x2A, 0x96]) s1 (.error .headerUnderrun) := ⟨rfl, rfl⟩
/-- V22. -/
theorem test_hdr_unpack_v2 :
    Answers (.hdrUnpackV2 [0xFD, 1, 1, 0x80, 3, 0x2A, 0x96, 0, 0, 0]) s1 (.header ⟨0xFD, 1, 3, 0x2A, 0x96, 0, 1, 0x80⟩) ∧
    Answers (.hdrUnpackV2 [0xFD, 6, 0, 0, 0xFF, 9, 8, 0x45, 0x23]) s1 (.error .headerUnderrun) := ⟨rfl, rfl⟩
/-- V9. -/
theorem test_reorder_d2w :
    Answers (.reorderD2w dA vA) s1 (.values wA) ∧ Answers (.reorderD2w dA (vA.take 3)) s1 (.error .valueShape) := ⟨rfl, rfl⟩
/-- V8. -/
theorem test_trunc_z :
    Answers (.truncZ [0, 0, 0]) s1 (.bytes [0]) ∧ Answers (.truncZ []) s1 (.bytes []) ∧
    Answers (.truncZ [0, 1, 0]) s1 (.bytes [0, 1]) := ⟨rfl, rfl, rfl⟩
/-- V1, V7. -/
theorem test_frame_enc :
    Answers (.frameEnc d0 [.scalar (.b8 7)]) s1 (.bytes F) ∧ Answers (.frameEnc dB vB) s2 (.bytes FB) := ⟨rfl, rfl⟩
/-- V20: an id that V1 cannot carry; and an ill-formed descriptor (log 13). -/
theorem test_frame_enc_refuses :
    Answers (.frameEnc dB vB) s1 (.error (.messageIdRange 0x012345)) ∧
    exec (.frameEnc { dB with orderMap := [] } vB) s1 = .refused .illFormedDescriptor := ⟨rfl, rfl⟩
/-- V20: 256 payload bytes that do not shrink. -/
theorem test_frame_enc_too_long :
    encodeFrame s2.cfg 0 1 1 dL [.array (List.replicate 255 (.b8 1)), .scalar (.b8 1)] = .error (.payloadTooLong 256) := by
  decide +kernel
/-- V23: with SEQ = 255 the counter wraps. -/
theorem test_session_sent :
    exec (.sessionSent 9) { s1 with seq := 255 } =
      .next { s1 with seq := 0, pktsSent := 1, bytesSent := 9, response := some .done } := rfl
/-- V21. -/
theorem test_zpad :
    Answers (.zpad [] 1) s1 (.bytes [0]) ∧ Answers (.zpad [1, 2, 3] 2) s1 (.bytes [1, 2, 3]) := ⟨rfl, rfl⟩
/-- V9. -/
theorem test_reorder_w2d :
    Answers (.reorderW2d dB flatB) s1 (.values vB) ∧
    Answers (.reorderW2d dB (flatB.take 4)) s1 (.error .valueShape) := ⟨rfl, rfl⟩
/-- V7, V18, V21. -/
theorem test_frame_dec :
    Answers (.frameDec FB) s2 (.message ⟨0x012345, vB⟩) ∧
    Answers (.frameDec [0xFE, 2, 0, 0x2A, 0x96, 0, 7, 9, 0x8C, 0x97]) s1 (.message msg7) ∧
    Answers (.frameDec [0xFD, 0, 0, 0, 0, 0x2A, 0x96, 0, 0, 0, 0xF5, 0x27]) (sess .v2 0 0 [d0])
      (.message ⟨0, [.scalar (.b8 0)]⟩) := ⟨rfl, rfl, rfl⟩
/-- V11 to V17: every error of FRAME.DEC. -/
theorem test_frame_dec_errors :
    Answers (.frameDec [0xFE, 1, 0, 0x2A, 0x96]) s1 (.error .headerUnderrun) ∧
    Answers (.frameDec (0xFD :: F.drop 1)) s1 (.error (.badMarker 0xFD)) ∧
    Answers (.frameDec [0xFE, 0, 0, 0x2A, 0x96, 0]) s1 (.error (.lengthMismatch 0 (-2))) ∧
    Answers (.frameDec [0xFE, 1, 0, 0x2A, 0x96, 9, 7, 0xAF, 0x3A]) s1 (.error (.unknownMessageId 9)) ∧
    Answers (.frameDec G) s1 (.error (.checksumMismatch 0x2377 0x3AAF)) ∧
    Answers (.frameDec C17) (sess .v1 0 0 [d0, dA]) (.error .truncatedPayload) := ⟨rfl, rfl, rfl, rfl, rfl, rfl⟩
/-- V24. -/
theorem test_feed_resync :
    exec (.feed (0 :: F)) s1 = .next { s1 with
      bytesRcvd := 10, pktsRcvd := 1, rxErrors := 1
      response := some (.items [.event ⟨[0], .badPrefix⟩, .message msg7]) } := rfl
/-- V26: a frame and the first four bytes of the next. -/
theorem test_feed_keeps_the_rest :
    exec (.feed (F ++ F.take 4)) s1 = .next { s1 with
      rxbuf := [0xFE, 1, 0, 0x2A], expectedLen := 9, bytesRcvd := 13, pktsRcvd := 1
      response := some (.items [.message msg7]) } := rfl
/-- P2, line 5. -/
theorem test_stat_read :
    Answers .statRead { s1 with seq := 2, pktsSent := 2, bytesSent := 18 } (.stats 2 2 18 0 0 0) := rfl
/-- Log 9: the frame of V1 on the wire, and the frame of V7 in its session. -/
theorem test_wire_frames :
    exec (.frameV1 ⟨0, 0x2A, 0x96, 0, [7], 0x3AAF⟩) s1 = exec (.feed F) s1 ∧
    exec (.frameV2 ⟨0xFD, 0, 0, 0xFF, 9, 8, 0x012345, [0x0B, 0x0A, 0, 0, 2, 1], 0xCAAC⟩) s2 = exec (.feed FB) s2 :=
  ⟨rfl, rfl⟩
/-- V31. -/
theorem test_reserved : step (s1with (.op 0x06 [])) = .next { s1 with response := some (.error (.unknownOp 6)) } := rfl
/-- R59, R65: kind codes, and an operation as D0's examples write it. -/
theorem test_kind_codes_and_written_form :
    (List.range 16).map Kind.ofCode =
      [some .i8, some .u8, some .i16, some .u16, some .i32, some .u32, some .i64, some .u64, some .f32, some .f64,
        some .char, none, none, none, none, none] ∧
    written (fun _ => "d0") (.crcBuf [1, 0, 0x2A]) = "CRC.BUF [01 00 2A]" ∧
    written (fun _ => "d0") (.frameEnc d0 [.scalar (.b8 7)]) = "FRAME.ENC d0, [07]" := by decide +kernel
/-- R140: codes 1 to 11. -/
theorem test_error_codes :
    [Err.badPrefix, .headerUnderrun, .badMarker 0, .lengthMismatch 0 0, .unknownMessageId 0, .checksumMismatch 0 0,
      .truncatedPayload, .messageIdRange 0, .payloadTooLong 0, .valueShape, .unknownOp 0].map Err.code =
      [1, 2, 3, 4, 5, 6, 7, 8, 9, 10, 11] ∧ Response.code .done = 0 := by decide
/-- R18: reads and writes of a byte sequence. -/
theorem test_mem : memRead [0x11, 0xEF, 0xBE] 1 2 = 0xBEEF ∧ memWrite [1, 2, 3, 4] 1 2 0xCAFE = [1, 0xFE, 0xCA, 4] := by
  decide

/-! ## Witnesses: the hypotheses of every statement, met -/

theorem witness_HeaderSizeFollowsTheVersion : s1.cfg.version = .v1 ∧ s2.cfg.version = .v2 := ⟨rfl, rfl⟩
theorem witness_ResetIsLegal : s1.cfg.WellFormed ∧ s2.cfg.WellFormed := by decide
theorem witness_CrcBufFoldsItsBytesInOrder :
    exec (.crcBuf [1]) s1 = .next { s1 with crc := 0x1E0E, response := some .done } ∧ ([1] : List Byte) ≠ [] :=
  ⟨rfl, by decide⟩
theorem witness_OneChangedByteAlwaysChangesTheCrc : (0x07 : Byte) ≠ 0x06 := by decide
theorem witness_UnpackShortKinds_read :
    ([9, 8, 7] : List Byte).drop 2 = [7] ∧ ([9, 8, 7] : List Byte).drop 1 = [8, 7] := ⟨rfl, rfl⟩
theorem witness_UnpackShortKinds_short :
    ([9] : List Byte).length < 1 + 1 ∧ ([9] : List Byte).length < 0 + 2 ∧ ([9] : List Byte).length < 5 + 1 := by decide
theorem witness_UnpackLongKinds_read :
    ([9, 1, 2, 3, 4] : List Byte).drop 1 = [1, 2, 3, 4] ∧
    ([1, 2, 3, 4, 5, 6, 7, 8] : List Byte).drop 0 = [1, 2, 3, 4, 5, 6, 7, 8] := ⟨rfl, rfl⟩
theorem witness_UnpackLongKinds_short :
    ([1, 2, 3] : List Byte).length < 0 + 4 ∧ ([1, 2, 3, 4, 5, 6, 7] : List Byte).length < 0 + 8 := by decide
theorem witness_PackLayout_fits : fitsLayout dB.wire wB = true ∧ fitsLayout [] [] = true := by decide
theorem witness_PackLayout_count : ([] : List Value).length ≠ d0.wire.length := by decide
theorem witness_PackLayout_shape :
    ∃ p ∈ d0.wire.zip [Value.array [.b8 0]], shapeFits p.1 p.2 = false := by decide
theorem witness_UnpackLayout_exact :
    (dB.wire.map fun sl => sl.fc * sl.kind.size).sum = ([0x0B, 0x0A, 0, 0, 2, 1, 0, 0, 0, 0, 0] : List Byte).length := by
  decide
theorem witness_UnpackLayout_short :
    ([0x0B, 0x0A, 0, 0, 2, 1, 0, 0, 0, 0] : List Byte).length < (dB.wire.map fun sl => sl.fc * sl.kind.size).sum := by
  decide
theorem witness_LayoutPackAndUnpackAreInverse :
    fitsLayout dA.wire wA = true ∧ ([1, 2, 3, 4, 5, 6, 7, 8, 9, 10] : List Byte).length = layoutLen dA.wire := by decide
theorem witness_HeaderPack_in_range : (255 : MsgId).toNat ≤ 255 := by decide
theorem witness_HeaderPack_out_of_range : 255 < (256 : MsgId).toNat := by decide
theorem witness_HeaderUnpack_short : (F.take 5).length < 6 ∧ (FB.take 9).length < 10 := by decide
theorem witness_HeaderInverse_lengths : (F.take 6).length = 6 ∧ (FB.take 10).length = 10 := by decide
theorem witness_Reorder_fits : dA.WellFormed ∧ vA.length = dA.declared.length := by decide
theorem witness_Reorder_refuses : dA.WellFormed ∧ (vA.take 3).length ≠ dA.declared.length := by decide
theorem witness_FrameEnc_order : vB.length = dB.declared.length ∧ InWireOrder dB vB wB :=
  ⟨rfl, rfl, fun i w h => by
    match i, h with
    | 0, h => cases h; rfl
    | 1, h => cases h; rfl
    | 2, h => cases h; rfl
    | _ + 3, h => simp [dB] at h⟩
theorem witness_FrameEnc_shape : d0.WellFormed ∧ InWireOrder d0 [.array []] [.array []] ∧
    ∃ p ∈ d0.wire.zip [Value.array []], shapeFits p.1 p.2 = false :=
  ⟨by decide, ⟨rfl, fun i w h => by
    match i, h with
    | 0, h => cases h; rfl
    | _ + 1, h => simp [d0] at h⟩, by decide⟩
theorem witness_FrameEnc_too_long :
    255 < (truncZ ((flatten [.array (List.replicate 255 (.b8 1)), .scalar (.b8 1)]).flatMap packPattern)).length := by
  decide +kernel
theorem witness_FrameEnc_longest :
    (truncZ ((flatten [.array (List.replicate 255 (.b8 1)), .scalar (.b8 0)]).flatMap packPattern)).length = 255 ∧
    fitsLayout dL.wire [.array (List.replicate 255 (.b8 1)), .scalar (.b8 0)] = true := by decide +kernel
theorem witness_FrameEnc_id_range : s1.cfg.version = .v1 ∧ 255 < dB.id.toNat ∧ dE.id.toNat ≤ 255 := by decide
theorem witness_EncodedFrames :
    Answers (.frameEnc dB vB) s2 (.bytes FB) ∧ s2.cfg.version = .v2 ∧ 1 < FB.length - s2.cfg.hs - 2 :=
  ⟨rfl, rfl, by decide⟩
theorem witness_ZeroPad : ([] : List Byte).length < 1 ∧ 3 ≤ ([1, 2, 3] : List Byte).length := by decide
theorem witness_ReorderGathers_fits : dB.WellFormed ∧ flatB.length = dB.flatLen := by decide
theorem witness_ReorderGathers_slots :
    dB.orderMap[0]? = some 2 ∧ dB.wire[2]? = some ⟨.u8, 0⟩ ∧ dB.orderMap[1]? = some 1 ∧ dB.wire[1]? = some ⟨.u16, 3⟩ := by
  decide
theorem witness_ReorderGathers_refuses : dB.WellFormed ∧ (flatB.take 4).length ≠ dB.flatLen := by decide
theorem witness_ReorderingsAreInverse :
    dB.WellFormed ∧ vB.length = dB.declared.length ∧ Answers (.reorderD2w dB vB) s1 (.values wB) ∧
    fitsLayout dB.wire wB = true := ⟨by decide, rfl, rfl, by decide⟩
theorem witness_FrameDec_underrun : s1.cfg.WellFormed ∧ (F.take 5).length < s1.cfg.hs := by decide
theorem witness_FrameDec_marker : s1.cfg.hs ≤ (0xFD :: F.drop 1).length ∧ byteAt (0xFD :: F.drop 1) 0 ≠ s1.cfg.marker.toNat := by
  decide
theorem witness_FrameDec_length :
    s1.cfg.hs ≤ (F.take 6).length ∧ byteAt (F.take 6) 0 = s1.cfg.marker.toNat ∧
    (byteAt (F.take 6) 1 : Int) ≠ ((F.take 6).length : Int) - s1.cfg.hs - 2 := by decide
theorem witness_FrameDec_unknown_id :
    byteAt (F.set 5 9) 0 = s1.cfg.marker.toNat ∧ (byteAt (F.set 5 9) 1 : Int) = ((F.set 5 9).length : Int) - s1.cfg.hs - 2 ∧
    s1.cfg.lookup (candidateId .v1 (F.set 5 9)) = none := by decide
theorem witness_FrameDec_checksum :
    s1.cfg.lookup (candidateId .v1 G) = some d0 ∧
    coveredChecksum (G.take 6) (candidatePayload .v1 G) d0.salt ≠ candidateCksum G := by decide +kernel
theorem witness_FrameDec_truncated :
    coveredChecksum (C17.take 6) (candidatePayload .v1 C17) dA.salt = candidateCksum C17 ∧
    (candidatePayload .v1 C17).length < dA.wireLen := by decide +kernel
theorem witness_FrameDec_message :
    coveredChecksum (FB.take 10) (candidatePayload .v2 FB) dB.salt = candidateCksum FB ∧
    dB.wireLen ≤ (candidatePayload .v2 FB ++ List.replicate (dB.wireLen - (candidatePayload .v2 FB).length) 0).length := by
  decide +kernel
theorem witness_FrameOperationsWriteNoState :
    exec (.frameEnc d0 [.scalar (.b8 7)]) s1 = .next { s1 with response := some (.bytes F) } ∧
    exec (.frameDec F) s1 = .next { s1 with response := some (.message msg7) } := ⟨rfl, rfl⟩
theorem witness_FrameOperations_between :
    (∀ i ∈ [Instr.crcByte 1, .feed [0]], ∀ n : Nat, i ≠ .sessionSent n) ∧
    runSeq [.crcByte 1, .feed [0]] { s1 with response := some (.bytes F) } =
      .next { s1 with crc := 0x1E0E, bytesRcvd := 1, rxErrors := 1,
                      response := some (.items [.event ⟨[0], .badPrefix⟩]) } := ⟨by simp, rfl⟩
/-- The receiver has other source ids and another sequence number than the sender. -/
theorem witness_EncodedFramesDecode :
    (sess .v2 1 2 [dB]).cfg.WellFormed ∧ (sess .v2 1 2 [dB]).cfg.lookup dB.id = some dB ∧
    (sess .v2 1 2 [dB]).cfg.version = s2.cfg.version ∧ (sess .v2 1 2 [dB]).cfg.marker = s2.cfg.marker ∧
    Answers (.frameEnc dB vB) s2 (.bytes FB) := ⟨by decide, rfl, rfl, rfl, rfl⟩
theorem witness_OneCorruptedByte :
    s1.cfg.WellFormed ∧ s1.cfg.lookup d0.id = some d0 ∧ Answers (.frameEnc d0 [.scalar (.b8 7)]) s1 (.bytes F) ∧
    6 + 2 < F.length ∧ isEarlyByte .v1 6 = false ∧ F[6]? ≠ some 6 := ⟨by decide, rfl, rfl, by decide, rfl, by decide⟩
theorem witness_CorruptedMarkerOrLength : F[0]? ≠ some 0xFD ∧ F[1]? ≠ some 2 := by decide
theorem witness_Feed_wellformed : s1.cfg.WellFormed := by decide
theorem witness_ResyncDropsOneByteAtATime :
    { s1 with rxbuf := 0 :: F }.rxbuf = 0 :: F ∧ (0 : Byte) ≠ s1.cfg.marker ∧
    exec (.feed []) { s1 with rxbuf := F, rxErrors := 1 } =
      .next { s1 with rxErrors := 1, pktsRcvd := 1, response := some (.items [.message msg7]) } := ⟨rfl, by decide, rfl⟩
/-- One byte short of the frame. -/
theorem witness_FeedWaits_frame :
    F.take 8 = s1.cfg.marker :: 1 :: [0x00, 0x2A, 0x96, 0x00, 0x07, 0xAF] ∧
    (F.take 8).length < (1 : Byte).toNat + s1.cfg.hs + 2 := ⟨rfl, by decide⟩
theorem witness_FeedWaits_marker :
    { s1 with rxbuf := [0xFE] }.rxbuf = [s1.cfg.marker] ∧ { s1 with rxbuf := [0xFE] }.expectedLen = s1.cfg.hs := ⟨rfl, rfl⟩
theorem witness_FeedCuts_message :
    F = s1.cfg.marker :: 1 :: F.drop 2 ∧ F.length = (1 : Byte).toNat + s1.cfg.hs + 2 ∧
    Answers (.frameDec F) s1 (.message msg7) ∧
    exec (.feed []) { s1 with rxbuf := [0xFE], pktsRcvd := 1 } =
      .next { s1 with rxbuf := [0xFE], pktsRcvd := 1, response := some (.items []) } := ⟨rfl, by decide, rfl, rfl⟩
theorem witness_FeedCuts_error :
    G = s1.cfg.marker :: 1 :: G.drop 2 ∧ G.length = (1 : Byte).toNat + s1.cfg.hs + 2 ∧
    Answers (.frameDec G) s1 (.error (.checksumMismatch 0x2377 0x3AAF)) ∧
    exec (.feed []) { s1 with rxErrors := 1 } = .next { s1 with rxErrors := 1, response := some (.items []) } :=
  ⟨rfl, by decide, rfl, rfl⟩
/-- A parser at rest with half a frame, and one with an empty buffer. -/
theorem witness_Legal : s1.Legal ∧ { s1 with rxbuf := [0xFE, 1, 0], expectedLen := 9 }.Legal :=
  ⟨⟨by decide, .inl rfl, fun _ => rfl, fun _ h => by cases h⟩,
    ⟨by decide, .inr rfl, fun h => by simp at h, fun _ h => by cases h; exact ⟨rfl, by decide⟩⟩⟩
theorem witness_FeedLoopEnds : s1.rxbuf.length < 1 := by decide
theorem witness_StepKeepsSessionsLegal :
    step (s1with (.op 0x50 [.bytes [0xFE, 1]])) =
      .next { s1 with rxbuf := [0xFE, 1], expectedLen := 9, bytesRcvd := 2, response := some (.items []) } := rfl
theorem witness_FragmentationDoesNotMatter : ([[0xFE], [], [0x01, 0x00]] : List (List Byte)) ≠ [] := by decide
theorem witness_FeedAccountsAndReports :
    exec (.feed (0 :: G)) s1 = .next { s1 with bytesRcvd := 10, rxErrors := 2, response := some (.items
      [.event ⟨[0], .badPrefix⟩, .event ⟨G, .checksumMismatch 0x2377 0x3AAF⟩]) } := rfl
theorem witness_GarbageBeforeAFrame :
    s1.rxbuf = [] ∧ (∀ b ∈ ([0x55, 0xAA] : List Byte), b ≠ s1.cfg.marker) ∧ Answers (.frameDec F) s1 (.message msg7) :=
  ⟨rfl, by decide, rfl⟩
theorem witness_ReservedCodes :
    isReservedCode 0x00 = true ∧ isReservedCode 0x52 = true ∧ isReservedCode 0x51 = false ∧ isReservedCode 0x05 = false ∧
    (11 ≤ 11 ∧ 11 ≤ 15) ∧ (11 ≤ 15 ∧ 15 ≤ 15) := by
  decide
theorem witness_StepRuns_decoded :
    (s1with (.op 0x05 [])).requests = [.op 0x05 []] ∧ decode (.op 0x05 []) = .ok .crcRead := ⟨rfl, rfl⟩
theorem witness_StepRuns_idle : s1.requests = [] := rfl
theorem witness_StepRuns_rejected :
    (s1with (.op 0x02 [])).requests = [.op 0x02 []] ∧ decode (.op 0x02 []) = .error (.operandShape 0x02) := ⟨rfl, rfl⟩
theorem witness_DecodeUndoesEncode : Instr.wf (.frameEnc dB vB) = true ∧ Instr.wf (.reserved 0xFF) = true := by decide
theorem witness_DecodedRequests :
    decode (.frame .v1 F) = .ok (.frameV1 ⟨0, 0x2A, 0x96, 0, [7], 0x3AAF⟩) ∧
    decode (.op 0x52 [.nat 1]) = .ok (.reserved 0x52) := ⟨rfl, rfl⟩
theorem witness_EveryInstructionCompletes_runs : Instr.wf (.feed F) = true ∧ s1.cfg.WellFormed := by decide
theorem witness_EveryInstructionCompletes_refuses :
    exec (.reorderD2w { dB with orderMap := [] } vB) s1 = .refused .illFormedDescriptor ∧
    exec (.feed F) (sess .v1 0 0 [d0, d0]) = .refused .illFormedRegistry := ⟨rfl, rfl⟩
theorem witness_ErrorsWriteNoState :
    exec (.frameDec []) s1 = .next { s1 with response := some (.error .headerUnderrun) } := rfl
theorem witness_Step_next :
    step (s1with (.op 0x43 [.nat 9])) = .next { s1 with seq := 1, pktsSent := 1, bytesSent := 9, response := some .done } := rfl
theorem witness_RegistersHaveOnlyTheirWriters :
    exec (.crcByte 1) s1 = .next { s1 with crc := 0x1E0E, response := some .done } ∧ (0x1E0E : Word16) ≠ s1.crc ∧
    exec (.feed [0]) s1 = .next { s1 with bytesRcvd := 1, rxErrors := 1, response := some (.items [.event ⟨[0], .badPrefix⟩]) } :=
  ⟨rfl, by decide, rfl⟩
theorem witness_SessionsDoNotTouchEachOther :
    stepSession 1 [s2, s1with (.op 0x05 [])] = .next [s2, { s1 with response := some (.crc 0xFFFF) }] := rfl
theorem witness_SendExpands :
    Answers (.frameEnc d0 [.scalar (.b8 7)]) s1 (.bytes F) ∧ Answers (.frameEnc d0 []) s1 (.error .valueShape) := ⟨rfl, rfl⟩
theorem witness_LeafSteps : Answers (.frameDec FB) s2 (.message ⟨0x012345, vB⟩) := rfl

end Sys2Proof.Tests
end

section
/-! PROOFS. The sizes and the marker of 00_scope.md R6 to R8, by version. -/

namespace Sys2Proof

theorem Config.hs_of_v1 {c : Config} (h : c.version = .v1) : c.hs = 6 := by
  rw [Config.hs, h, Version.headerSize]

theorem Config.hs_of_v2 {c : Config} (h : c.version = .v2) : c.hs = 10 := by
  rw [Config.hs, h, Version.headerSize]

theorem Config.marker_of_v1 {c : Config} (h : c.version = .v1) : c.marker = Machine.markerV1 := by
  rw [Config.marker, h]

theorem Config.marker_of_v2 {c : Config} (h : c.version = .v2) : c.marker = c.markerV2 := by
  rw [Config.marker, h]

/-- R8: the smallest frame is a header and a trailer. -/
theorem Config.minFrame_eq (c : Config) : c.minFrame = c.hs + 2 := rfl

/-- R8: the largest frame has the longest payload, 255 bytes, between header and trailer. -/
theorem Config.maxFrame_eq (c : Config) : c.maxFrame = c.hs + 257 := rfl

/-- Settles O1: the frame sizes follow from HS, and HS and the marker from the version. -/
theorem headerSizeFollowsTheVersion : Obligations.HeaderSizeFollowsTheVersion := by
  intro c
  constructor
  · intro hv1
    have hhs := Config.hs_of_v1 hv1
    exact ⟨hhs, by rw [c.minFrame_eq, hhs], by rw [c.maxFrame_eq, hhs], Config.marker_of_v1 hv1⟩
  · intro hv2
    have hhs := Config.hs_of_v2 hv2
    exact ⟨hhs, by rw [c.minFrame_eq, hhs], by rw [c.maxFrame_eq, hhs], Config.marker_of_v2 hv2⟩

end Sys2Proof
end

section
/-! PROOFS. A constructed session, register by register (10_state.md R37, 70_reset_and_hazards.md R153). -/

namespace Sys2Proof.Machine

section
variable (c : Config) (sysid0 compid0 : Byte)

@[simp] theorem State.construct_crc : (State.construct c sysid0 compid0).crc = seed := rfl

@[simp] theorem State.construct_seq : (State.construct c sysid0 compid0).seq = 0 := rfl

@[simp] theorem State.construct_sysid : (State.construct c sysid0 compid0).sysid = sysid0 := rfl

@[simp] theorem State.construct_compid : (State.construct c sysid0 compid0).compid = compid0 := rfl

@[simp] theorem State.construct_rxbuf : (State.construct c sysid0 compid0).rxbuf = [] := rfl

@[simp] theorem State.construct_expectedLen : (State.construct c sysid0 compid0).expectedLen = c.hs := rfl

@[simp] theorem State.construct_pktsSent : (State.construct c sysid0 compid0).pktsSent = 0 := rfl

@[simp] theorem State.construct_bytesSent : (State.construct c sysid0 compid0).bytesSent = 0 := rfl

@[simp] theorem State.construct_pktsRcvd : (State.construct c sysid0 compid0).pktsRcvd = 0 := rfl

@[simp] theorem State.construct_bytesRcvd : (State.construct c sysid0 compid0).bytesRcvd = 0 := rfl

@[simp] theorem State.construct_rxErrors : (State.construct c sysid0 compid0).rxErrors = 0 := rfl

@[simp] theorem State.construct_cfg : (State.construct c sysid0 compid0).cfg = c := rfl

end

/-- R9: the checksum's seed, as the number R37's table prints. -/
theorem seed_eq : seed = 0xFFFF := rfl

end Sys2Proof.Machine

namespace Sys2Proof

open Machine

/-- Settles O2: R37's table, read off the constructed session register by register. -/
theorem resetValuesOfEveryRegister : Obligations.ResetValuesOfEveryRegister := by
  intro c sysid0 compid0 s
  have hcrc : s.crc = 0xFFFF := (State.construct_crc c sysid0 compid0).trans seed_eq
  exact ⟨hcrc, State.construct_seq .., State.construct_sysid .., State.construct_compid .., State.construct_rxbuf ..,
    State.construct_expectedLen .., State.construct_pktsSent .., State.construct_bytesSent ..,
    State.construct_pktsRcvd .., State.construct_bytesRcvd .., State.construct_rxErrors .., State.construct_cfg ..⟩

end Sys2Proof
end

section
/-! PROOFS. The request decoder, code by code: what each operand shape accepts (30_encoding.md R62), and that the codes it
reads as reserved are those of R64. -/

namespace Sys2Proof

section
variable {op : Byte} {args : List Operand} {j : Instr}

theorem takeNone_eq_ok {i : Instr} : takeNone op i args = .ok j ↔ args = [] ∧ j = i := by
  unfold takeNone
  split <;> simp_all [eq_comm]

theorem takeByte_eq_ok {f : Byte → Instr} : takeByte op f args = .ok j ↔ ∃ b, args = [.byte b] ∧ j = f b := by
  unfold takeByte
  split <;> simp_all [eq_comm]

theorem takeWord16_eq_ok {f : BitVec 16 → Instr} :
    takeWord16 op f args = .ok j ↔ ∃ v, args = [.word16 v] ∧ j = f v := by
  unfold takeWord16
  split <;> simp_all [eq_comm]

theorem takeWord32_eq_ok {f : BitVec 32 → Instr} :
    takeWord32 op f args = .ok j ↔ ∃ v, args = [.word32 v] ∧ j = f v := by
  unfold takeWord32
  split <;> simp_all [eq_comm]

theorem takeWord64_eq_ok {f : BitVec 64 → Instr} :
    takeWord64 op f args = .ok j ↔ ∃ v, args = [.word64 v] ∧ j = f v := by
  unfold takeWord64
  split <;> simp_all [eq_comm]

theorem takeNat_eq_ok {f : Nat → Instr} : takeNat op f args = .ok j ↔ ∃ n, args = [.nat n] ∧ j = f n := by
  unfold takeNat
  split <;> simp_all [eq_comm]

theorem takeBytes_eq_ok {f : List Byte → Instr} :
    takeBytes op f args = .ok j ↔ ∃ S, args = [.bytes S] ∧ j = f S := by
  unfold takeBytes
  split <;> simp_all [eq_comm]

theorem takeBytesNat_eq_ok {f : List Byte → Nat → Instr} :
    takeBytesNat op f args = .ok j ↔ ∃ S n, args = [.bytes S, .nat n] ∧ j = f S n := by
  unfold takeBytesNat
  split <;> simp_all [eq_comm]

theorem takeLayoutValues_eq_ok {f : List Slot → List Value → Instr} :
    takeLayoutValues op f args = .ok j ↔ ∃ L V, args = [.layout L, .values V] ∧ j = f L V := by
  unfold takeLayoutValues
  split <;> simp_all [eq_comm]

theorem takeLayoutBytes_eq_ok {f : List Slot → List Byte → Instr} :
    takeLayoutBytes op f args = .ok j ↔ ∃ L S, args = [.layout L, .bytes S] ∧ j = f L S := by
  unfold takeLayoutBytes
  split <;> simp_all [eq_comm]

theorem takeHeader_eq_ok {f : Header → Instr} : takeHeader op f args = .ok j ↔ ∃ h, args = [.header h] ∧ j = f h := by
  unfold takeHeader
  split <;> simp_all [eq_comm]

theorem takeDescriptorValues_eq_ok {f : Descriptor → List Value → Instr} :
    takeDescriptorValues op f args = .ok j ↔ ∃ d V, args = [.descriptor d, .values V] ∧ j = f d V := by
  unfold takeDescriptorValues
  split <;> simp_all [eq_comm]

theorem takeDescriptorFlat_eq_ok {f : Descriptor → List Pattern → Instr} :
    takeDescriptorFlat op f args = .ok j ↔ ∃ d T, args = [.descriptor d, .flat T] ∧ j = f d T := by
  unfold takeDescriptorFlat
  split <;> simp_all [eq_comm]

end

/-- R64 in numbers, the form in which the decoder's match on the code is compared with it. -/
theorem isReservedCode_iff (op : Byte) :
    isReservedCode op = true ↔
      op.toNat = 0 ∨ (6 ≤ op.toNat ∧ op.toNat ≤ 15) ∨ (27 ≤ op.toNat ∧ op.toNat ≤ 30) ∨
      (43 ≤ op.toNat ∧ op.toNat ≤ 46) ∨ (52 ≤ op.toNat ∧ op.toNat ≤ 63) ∨ (68 ≤ op.toNat ∧ op.toNat ≤ 71) ∨
      (75 ≤ op.toNat ∧ op.toNat ≤ 79) ∨ 82 ≤ op.toNat := by
  simp [isReservedCode, BitVec.le_def, ← BitVec.toNat_inj, or_assoc]

/-- Log 11: at a code of R64 the decoder does not look at the operands. -/
theorem decodeOp_of_isReservedCode {op : Byte} (h : isReservedCode op = true) (args : List Operand) :
    decodeOp op args = .ok (.reserved op) := by
  rw [isReservedCode_iff] at h
  unfold decodeOp
  split
  case h_43 => rfl
  all_goals omega

/-- R63, R64: no code that R63 lists reads as reserved, and a reserved code reads as itself. -/
theorem isReservedCode_of_decodeOp {op c : Byte} {args : List Operand} (h : decodeOp op args = .ok (.reserved c)) :
    isReservedCode op = true ∧ c = op := by
  unfold decodeOp at h
  split at h
  case h_43 =>
    refine ⟨?_, (Instr.reserved.inj (Except.ok.inj h)).symm⟩
    -- `split` gives each excluded code as `_ = n → False`, which `omega` does not read.
    simp only [imp_false] at *
    rw [isReservedCode_iff]
    omega
  all_goals
    simp [takeNone_eq_ok, takeByte_eq_ok, takeWord16_eq_ok, takeWord32_eq_ok, takeWord64_eq_ok, takeNat_eq_ok,
      takeBytes_eq_ok, takeBytesNat_eq_ok, takeLayoutValues_eq_ok, takeLayoutBytes_eq_ok, takeHeader_eq_ok,
      takeDescriptorValues_eq_ok, takeDescriptorFlat_eq_ok] at h

theorem decodeOp_eq_reserved_iff {op c : Byte} {args : List Operand} :
    decodeOp op args = .ok (.reserved c) ↔ isReservedCode op = true ∧ c = op := by
  constructor
  · exact isReservedCode_of_decodeOp
  · rintro ⟨hop, rfl⟩
    exact decodeOp_of_isReservedCode hop args

/-- R59: the kind codes end at 10. -/
theorem Kind.ofCode_eq_none {k : Nat} (h : 11 ≤ k) : Kind.ofCode k = none := by
  unfold Kind.ofCode
  split
  case h_12 => rfl
  all_goals omega

/-- R64, R144: the row `(reserved)` only raises `UnknownOp`. -/
theorem Machine.exec_reserved_answers (s : Machine.State) (op : Byte) :
    Machine.Answers (.reserved op) s (.error (.unknownOp op)) := by
  rw [Machine.Answers, Machine.exec_reserved, Machine.execReserved, Machine.raise_eq, Machine.State.respond]

/-- Settles O47: the decoder's match on the code leaves exactly R64's codes to the row `(reserved)`, and that row only
raises `UnknownOp`. -/
theorem reservedCodesAnswerUnknownOp : Obligations.ReservedCodesAnswerUnknownOp := by
  refine ⟨Machine.exec_reserved_answers, fun k h11 _ => Kind.ofCode_eq_none h11, fun op args => ?_⟩
  rw [decode, decodeOp_eq_reserved_iff]
  exact (and_iff_left rfl).symm

end Sys2Proof
end

section
/-! PROOFS. The checksum operations (40_checksum.md R67, R68, R73 to R77): the exact next state of each, once; a sequence
of `CRC.BYTE` as one `CRC.BUF`; and the shift equations on natural numbers. -/

namespace Sys2Proof.Machine

section
variable (s : State)

@[simp] theorem State.setCrc_setCrc (c c' : Word16) : (s.setCrc c).setCrc c' = s.setCrc c' := rfl

@[simp] theorem State.respond_respond (r r' : Response) : (s.respond r).respond r' = s.respond r' := rfl

/-- A register write after a response is the write before it: the response is a field of its own. -/
@[simp] theorem State.setCrc_respond (c : Word16) (r : Response) : (s.respond r).setCrc c = (s.setCrc c).respond r := rfl

/-- What the checksum operations write, field by field. -/
theorem State.respond_setCrc_eq (c : Word16) (r : Response) :
    (s.setCrc c).respond r = { s with crc := c, response := some r } := rfl

theorem exec_crcInit_next : exec .crcInit s = .next ((s.setCrc seed).respond .done) := by
  rw [exec_crcInit, execCrcInit, ret_eq]

theorem exec_crcByte_next (b : Byte) : exec (.crcByte b) s = .next ((s.setCrc (crcStep s.crc b)).respond .done) := by
  rw [exec_crcByte, execCrcByte, ret_eq]

theorem exec_crcBuf_next (S : List Byte) : exec (.crcBuf S) s = .next ((s.setCrc (crcFold s.crc S)).respond .done) := by
  rw [exec_crcBuf, execCrcBuf, ret_eq]

theorem exec_crcSalt_next (salt : Byte) :
    exec (.crcSalt salt) s = .next ((s.setCrc (crcStep s.crc salt)).respond .done) := by
  rw [exec_crcSalt, execCrcSalt, ret_eq]

/-- R77: the register is returned as it stands, and only the response is written. -/
theorem exec_crcRead_answers : Answers .crcRead s (.crc s.crc) := by
  rw [Answers, exec_crcRead, execCrcRead, ret_eq, State.respond]

/-- R76: `CRC.SALT s` computes exactly what `CRC.BYTE s` computes. -/
theorem exec_crcSalt_eq_crcByte (salt : Byte) : exec (.crcSalt salt) s = exec (.crcByte salt) s := by
  rw [exec_crcSalt_next, exec_crcByte_next]

/-- R75: one byte as a buffer is that byte. -/
theorem exec_crcBuf_singleton (b : Byte) : exec (.crcBuf [b]) s = exec (.crcByte b) s := by
  rw [exec_crcBuf_next, exec_crcByte_next, crcFold_cons, crcFold_nil]

end

/-- R75: a second piece, performed where the first one ended, is the whole. -/
theorem exec_crcBuf_append {s t : State} {S : List Byte} (h : exec (.crcBuf S) s = .next t) (T : List Byte) :
    exec (.crcBuf T) t = exec (.crcBuf (S ++ T)) s := by
  rw [exec_crcBuf_next] at h
  obtain rfl := Host.Outcome.next.inj h
  simp only [exec_crcBuf_next, crcFold_append, State.respond_crc, State.setCrc_crc, State.setCrc_respond,
    State.setCrc_setCrc, State.respond_respond]

theorem runSeq_cons_of_next {i : Instr} {s t : State} (h : exec i s = .next t) (rest : List Instr) :
    runSeq (i :: rest) s = runSeq rest t := by
  rw [runSeq, h]

theorem runSeq_singleton (i : Instr) (s : State) : runSeq [i] s = exec i s := by
  rw [runSeq]
  cases exec i s <;> rfl

/-- R75: by induction over the bytes after the first, each `CRC.BYTE` is a buffer of one, to which the rest is appended. -/
theorem runSeq_crcByte_cons (b : Byte) (S : List Byte) (s : State) :
    runSeq ((b :: S).map Instr.crcByte) s = exec (.crcBuf (b :: S)) s := by
  induction S generalizing b s with
  | nil => rw [List.map_singleton, runSeq_singleton, exec_crcBuf_singleton]
  | cons b' S ih =>
    have hb := exec_crcByte_next s b
    calc runSeq ((b :: b' :: S).map Instr.crcByte) s
        = runSeq ((b' :: S).map Instr.crcByte) ((s.setCrc (crcStep s.crc b)).respond .done) :=
          runSeq_cons_of_next hb _
      _ = exec (.crcBuf (b' :: S)) ((s.setCrc (crcStep s.crc b)).respond .done) := ih b' _
      _ = exec (.crcBuf ([b] ++ b' :: S)) s := exec_crcBuf_append ((exec_crcBuf_singleton s b).trans hb) _

/-- R67: the rule's `& 0xFF` on natural numbers. -/
theorem and_byteMask (n : Nat) : n &&& 0xFF = n % 2 ^ 8 := Nat.and_two_pow_sub_one_eq_mod n 8

/-- R67: the rule's `& 0xFFFF` on natural numbers. -/
theorem and_wordMask (n : Nat) : n &&& 0xFFFF = n % 2 ^ 16 := Nat.and_two_pow_sub_one_eq_mod n 16

/-- R67: `t1`, the rule's mask of 8 bits as the width of a byte. -/
theorem toNat_xor_setWidth_low (state : Word16) (b : Byte) :
    (b ^^^ state.setWidth 8).toNat = (b.toNat ^^^ (state.toNat &&& 0xFF)) &&& 0xFF := by
  simp only [and_byteMask, BitVec.toNat_xor, BitVec.toNat_setWidth, Nat.xor_mod_two_pow, Nat.mod_mod, b.toNat_mod_cancel]

/-- R67: `t2`; the mask drops the high nibble that the shift moves out of the byte. -/
theorem toNat_xor_shiftLeft_four (t1 : Byte) :
    (t1 ^^^ (t1 <<< 4)).toNat = (t1.toNat ^^^ (t1.toNat <<< 4)) &&& 0xFF := by
  simp only [and_byteMask, BitVec.toNat_xor, BitVec.toNat_shiftLeft, Nat.xor_mod_two_pow, t1.toNat_mod_cancel]

/-- R67: the last equation, for a `t2` of 8 bits; its mask of 16 bits is the width of the register. -/
theorem shiftEquation_eq_ofNat (state : Word16) (t2 : Byte) :
    (state >>> 8) ^^^ (t2.setWidth 16 <<< 8) ^^^ (t2.setWidth 16 <<< 3) ^^^ (t2.setWidth 16 >>> 4) =
      BitVec.ofNat 16
        (((state.toNat >>> 8) ^^^ (t2.toNat <<< 8) ^^^ (t2.toNat <<< 3) ^^^ (t2.toNat >>> 4)) &&& 0xFFFF) := by
  have hwide : t2.toNat % 2 ^ 16 = t2.toNat := by omega
  have hfit : (state.toNat >>> 8) % 2 ^ 16 = state.toNat >>> 8 := (state >>> 8).toNat_mod_cancel
  have hlow : (t2.toNat >>> 4) % 2 ^ 16 = t2.toNat >>> 4 := by
    rw [Nat.shiftRight_eq_div_pow]
    omega
  apply BitVec.eq_of_toNat_eq
  simp only [and_wordMask, BitVec.toNat_ofNat, BitVec.toNat_xor, BitVec.toNat_shiftLeft, BitVec.toNat_ushiftRight,
    BitVec.toNat_setWidth, Nat.xor_mod_two_pow, Nat.mod_mod, hwide, hfit, hlow]

/-- R67: the model's step on words is the rule's three equations on natural numbers. -/
theorem crcStep_eq_ofNat (state : Word16) (b : Byte) :
    let t1 := (b.toNat ^^^ (state.toNat &&& 0xFF)) &&& 0xFF
    let t2 := (t1 ^^^ (t1 <<< 4)) &&& 0xFF
    crcStep state b = BitVec.ofNat 16
      (((state.toNat >>> 8) ^^^ (t2 <<< 8) ^^^ (t2 <<< 3) ^^^ (t2 >>> 4)) &&& 0xFFFF) := by
  simp only [← toNat_xor_setWidth_low, ← toNat_xor_shiftLeft_four, ← shiftEquation_eq_ofNat, crcStep]

end Sys2Proof.Machine

namespace Sys2Proof

open Machine

/-- Settles O4: the next states of the three operations, and the salt step as a byte step. -/
theorem crcInitSaltAndRead : Obligations.CrcInitSaltAndRead := by
  intro s salt
  refine ⟨?init, ?salt, exec_crcSalt_eq_crcByte s salt, exec_crcRead_answers s⟩
  case init => rw [exec_crcInit_next, State.respond_setCrc_eq, seed_eq]
  case salt => rw [exec_crcSalt_next, State.respond_setCrc_eq]

/-- Settles O5: `CRC.BYTE` writes `crcStep`, which is the rule's equations on natural numbers. -/
theorem crcByteAppliesTheShiftEquations : Obligations.CrcByteAppliesTheShiftEquations := by
  intro s b state t1 t2
  rw [exec_crcByte_next, State.respond_setCrc_eq, crcStep_eq_ofNat]

/-- Settles O6: the fold of R68, the append law, and the induction over the `CRC.BYTE` operations. -/
theorem crcBufFoldsItsBytesInOrder : Obligations.CrcBufFoldsItsBytesInOrder := by
  refine ⟨?fold, ?pieces, ?bytes⟩
  case fold =>
    intro s S
    rw [exec_crcBuf_next, State.respond_setCrc_eq, crcFold]
  case pieces => exact fun s t S T h => exec_crcBuf_append h T
  case bytes =>
    intro s S hS
    obtain ⟨b, S, rfl⟩ := List.exists_cons_of_ne_nil hS
    exact runSeq_crcByte_cons b S s

end Sys2Proof
end

section
/-! PROOFS. The element operations (41_scalar_codec.md R79 to R101): little-endian sequences as bit fields, what each
PACK and UNPACK answers, once for all kinds. -/

namespace Sys2Proof

/-- A word is what its own number gives. -/
theorem ofNat_eq_of_toNat_eq {w n : Nat} {v : BitVec w} (h : v.toNat = n) : BitVec.ofNat w n = v := by
  rw [← h, BitVec.ofNat_toNat, BitVec.setWidth_eq]

namespace Machine

/-- R17: byte i of a little-endian sequence is the number shifted right by 8 i bits. -/
theorem le_eq_map_shiftRight (n v : Nat) :
    le n v = (List.range n).map fun i => BitVec.ofNat 8 (v >>> (8 * i)) := by
  induction n generalizing v with
  | zero => rfl
  | succ n ih =>
    have hshift (i : Nat) : (v / 256) >>> (8 * i) = v >>> (8 * (i + 1)) := by
      rw [Nat.mul_succ, Nat.add_comm, Nat.shiftRight_add, Nat.shiftRight_eq_div_pow v 8]
    rw [le_succ, ih, List.range_succ_eq_map, List.map_cons, List.map_map]
    simp only [Function.comp_def, hshift, Nat.succ_eq_add_one, Nat.mul_zero, Nat.shiftRight_zero]

/-- R17: the bytes of a pattern are its bit fields, bits 7 to 0 first. -/
theorem le_toNat_eq_map_extractLsb' {w : Nat} (n : Nat) (v : BitVec w) :
    le n v.toNat = (List.range n).map fun i => v.extractLsb' (8 * i) 8 :=
  le_eq_map_shiftRight n v.toNat

theorem packPattern_b8 (v : BitVec 8) : packPattern (.b8 v) = [v] := by
  rw [packPattern, Pattern.size, Pattern.toNat, le_succ, le_zero, ofNat_eq_of_toNat_eq rfl]

theorem packPattern_b16 (v : BitVec 16) : packPattern (.b16 v) = [v.extractLsb' 0 8, v.extractLsb' 8 8] :=
  le_toNat_eq_map_extractLsb' 2 v

theorem packPattern_b32 (v : BitVec 32) :
    packPattern (.b32 v) = [v.extractLsb' 0 8, v.extractLsb' 8 8, v.extractLsb' 16 8, v.extractLsb' 24 8] :=
  le_toNat_eq_map_extractLsb' 4 v

theorem packPattern_b64 (v : BitVec 64) :
    packPattern (.b64 v) =
      [v.extractLsb' 0 8, v.extractLsb' 8 8, v.extractLsb' 16 8, v.extractLsb' 24 8,
       v.extractLsb' 32 8, v.extractLsb' 40 8, v.extractLsb' 48 8, v.extractLsb' 56 8] :=
  le_toNat_eq_map_extractLsb' 8 v

/-- R17: a byte appended below a word, as numbers: one step of `unle`. -/
theorem toNat_append_byte {w : Nat} (x : BitVec w) (b : Byte) : (x ++ b).toNat = b.toNat + 256 * x.toNat := by
  rw [BitVec.toNat_append, ← Nat.shiftLeft_add_eq_or_of_lt b.isLt, Nat.shiftLeft_eq]
  omega

theorem ofNat_unle_one (b : Byte) : BitVec.ofNat 8 (unle [b]) = b :=
  ofNat_eq_of_toNat_eq (by simp only [unle_cons, unle_nil, Nat.mul_zero, Nat.add_zero])

theorem unle_two (b0 b1 : Byte) : unle [b0, b1] = b0.toNat + 256 * b1.toNat := by
  simp only [unle_cons, unle_nil, Nat.mul_zero, Nat.add_zero]

/-- R17: the word four bytes make, the first one least significant. -/
theorem ofNat_unle_four (b0 b1 b2 b3 : Byte) : BitVec.ofNat 32 (unle [b0, b1, b2, b3]) = b3 ++ b2 ++ b1 ++ b0 :=
  ofNat_eq_of_toNat_eq (by simp only [toNat_append_byte, unle_cons, unle_nil, Nat.mul_zero, Nat.add_zero])

/-- R17: the word eight bytes make, the first one least significant. -/
theorem ofNat_unle_eight (b0 b1 b2 b3 b4 b5 b6 b7 : Byte) :
    BitVec.ofNat 64 (unle [b0, b1, b2, b3, b4, b5, b6, b7]) = b7 ++ b6 ++ b5 ++ b4 ++ b3 ++ b2 ++ b1 ++ b0 :=
  ofNat_eq_of_toNat_eq (by simp only [toNat_append_byte, unle_cons, unle_nil, Nat.mul_zero, Nat.add_zero])

section
variable {i : Instr} {s : State}

/-- R80 to R90: an operation that is the pack of one element answers its bytes. -/
theorem answers_of_packElem {p : Pattern} {P : List Byte} (hi : exec i s = packElem p s) (hp : packPattern p = P) :
    Answers i s (.bytes P) := by
  rw [Answers, hi, packElem, hp, ret_eq, State.respond]

/-- R141: an operation that delivers a result answers it. -/
theorem answers_of_deliver_ok {α : Type} {x : Except Err α} {f : α → Response} {a : α}
    (hi : exec i s = deliver x f s) (hx : x = .ok a) : Answers i s (f a) := by
  rw [Answers, hi, hx, deliver_ok, State.respond]

/-- R141: an operation that delivers an error answers it. -/
theorem answers_of_deliver_error {α : Type} {x : Except Err α} {f : α → Response} {e : Err}
    (hi : exec i s = deliver x f s) (hx : x = .error e) : Answers i s (.error e) := by
  rw [Answers, hi, hx, deliver_error, State.respond]

variable {k : Kind} {S : List Byte} {off : Nat}

/-- R79: where the bytes from the offset on begin with the kind's number of bytes, they are the element. -/
theorem unpackKind_of_drop_eq {bs rest : List Byte} (hbs : bs.length = k.size) (hS : S.drop off = bs ++ rest) :
    unpackKind k S off = .ok (k.pattern (unle bs)) := by
  have hlen : S.length - off = bs.length + rest.length := by rw [← List.length_drop, hS, List.length_append]
  have hpos := k.size_pos
  rw [unpackKind_ok k S off (by omega), hS, List.take_left' hbs]

/-- R91 to R101: an operation that is the unpack of one element answers the pattern of the bytes at the offset. -/
theorem answers_of_unpackElem {bs rest : List Byte} {p : Pattern} (hi : exec i s = unpackElem k S off s)
    (hbs : bs.length = k.size) (hS : S.drop off = bs ++ rest) (hp : k.pattern (unle bs) = p) :
    Answers i s (.pattern p) :=
  hp ▸ answers_of_deliver_ok hi (unpackKind_of_drop_eq hbs hS)

/-- R91 to R101: an operation that is the unpack of one element refuses fewer bytes than the kind's size. -/
theorem answers_truncated_of_unpackElem (hi : exec i s = unpackElem k S off s) (hS : S.length < off + k.size) :
    Answers i s (.error .truncatedPayload) :=
  answers_of_deliver_error hi (unpackKind_error k S off hS)

end

end Machine

open Machine

/-- Settles O10: every pack is `packElem` of its pattern, and the bytes of a pattern are its bit fields. -/
theorem packReturnsTheLittleEndianBytes : Obligations.PackReturnsTheLittleEndianBytes := by
  intro s v8 v16 v32 v64 two four eight
  have h8 := packPattern_b8 v8
  have h16 : packPattern (.b16 v16) = two := packPattern_b16 v16
  have h32 : packPattern (.b32 v32) = four := packPattern_b32 v32
  have h64 : packPattern (.b64 v64) = eight := packPattern_b64 v64
  exact ⟨answers_of_packElem (exec_packI8 s v8) h8, answers_of_packElem (exec_packU8 s v8) h8,
    answers_of_packElem (exec_packI16 s v16) h16, answers_of_packElem (exec_packU16 s v16) h16,
    answers_of_packElem (exec_packI32 s v32) h32, answers_of_packElem (exec_packU32 s v32) h32,
    answers_of_packElem (exec_packI64 s v64) h64, answers_of_packElem (exec_packU64 s v64) h64,
    answers_of_packElem (exec_packF32 s v32) h32, answers_of_packElem (exec_packF64 s v64) h64,
    answers_of_packElem (exec_packChar s v8) h8⟩

/-- Settles O11: every unpack is `unpackElem` of its kind, here with one and with two bytes. -/
theorem unpackShortKinds : Obligations.UnpackShortKinds := by
  intro s S off
  refine ⟨?one, ?oneShort, ?two, ?twoShort⟩
  case one =>
    intro b rest hS
    have hv := congrArg Pattern.b8 (ofNat_unle_one b)
    exact ⟨answers_of_unpackElem (exec_unpackI8 s S off) rfl hS hv,
      answers_of_unpackElem (exec_unpackU8 s S off) rfl hS hv,
      answers_of_unpackElem (exec_unpackChar s S off) rfl hS hv⟩
  case oneShort =>
    intro hS
    exact ⟨answers_truncated_of_unpackElem (exec_unpackI8 s S off) hS,
      answers_truncated_of_unpackElem (exec_unpackU8 s S off) hS,
      answers_truncated_of_unpackElem (exec_unpackChar s S off) hS⟩
  case two =>
    intro b0 b1 rest hS v
    have hv : Pattern.b16 (BitVec.ofNat 16 (unle [b0, b1])) = .b16 v := by rw [unle_two]
    exact ⟨answers_of_unpackElem (exec_unpackI16 s S off) rfl hS hv,
      answers_of_unpackElem (exec_unpackU16 s S off) rfl hS hv⟩
  case twoShort =>
    intro hS
    exact ⟨answers_truncated_of_unpackElem (exec_unpackI16 s S off) hS,
      answers_truncated_of_unpackElem (exec_unpackU16 s S off) hS⟩

/-- Settles O12: every unpack is `unpackElem` of its kind, here with four and with eight bytes. -/
theorem unpackLongKinds : Obligations.UnpackLongKinds := by
  intro s S off
  refine ⟨?four, ?fourShort, ?eight, ?eightShort⟩
  case four =>
    intro b0 b1 b2 b3 rest hS v
    have hv : Pattern.b32 _ = .b32 v := congrArg Pattern.b32 (ofNat_unle_four b0 b1 b2 b3)
    exact ⟨answers_of_unpackElem (exec_unpackI32 s S off) rfl hS hv,
      answers_of_unpackElem (exec_unpackU32 s S off) rfl hS hv,
      answers_of_unpackElem (exec_unpackF32 s S off) rfl hS hv⟩
  case fourShort =>
    intro hS
    exact ⟨answers_truncated_of_unpackElem (exec_unpackI32 s S off) hS,
      answers_truncated_of_unpackElem (exec_unpackU32 s S off) hS,
      answers_truncated_of_unpackElem (exec_unpackF32 s S off) hS⟩
  case eight =>
    intro b0 b1 b2 b3 b4 b5 b6 b7 rest hS v
    have hv : Pattern.b64 _ = .b64 v := congrArg Pattern.b64 (ofNat_unle_eight b0 b1 b2 b3 b4 b5 b6 b7)
    exact ⟨answers_of_unpackElem (exec_unpackI64 s S off) rfl hS hv,
      answers_of_unpackElem (exec_unpackU64 s S off) rfl hS hv,
      answers_of_unpackElem (exec_unpackF64 s S off) rfl hS hv⟩
  case eightShort =>
    intro hS
    exact ⟨answers_truncated_of_unpackElem (exec_unpackI64 s S off) hS,
      answers_truncated_of_unpackElem (exec_unpackU64 s S off) hS,
      answers_truncated_of_unpackElem (exec_unpackF64 s S off) hS⟩

end Sys2Proof
end

section
/-! PROOFS. The layout operations (41_scalar_codec.md R104, R105): what fits a layout packs to the layout's length, and
unpacking walks the bytes element by element, slot by slot. -/

namespace Sys2Proof

namespace Machine

/-- R79: elements of one width pack to that many bytes each. -/
theorem length_flatMap_packPattern {n : Nat} {ps : List Pattern} (h : ∀ p ∈ ps, p.size = n) :
    (ps.flatMap packPattern).length = ps.length * n := by
  have hsizes : ps.map Pattern.size = List.replicate ps.length n := List.map_eq_replicate_iff.mpr h
  simp only [List.length_flatMap, packPattern_length, hsizes, List.sum_replicate, smul_eq_mul]

/-- R104: a value that fits its slot packs to `fc * size` bytes. -/
theorem packed_length_of_fitsSlot {sl : Slot} {v : Value} (h : fitsSlot sl v = true) :
    ((valueElems v).flatMap packPattern).length = sl.bytes := by
  obtain ⟨hshape, hwidth⟩ := Bool.and_eq_true_iff.mp h
  have hsize : ∀ p ∈ valueElems v, p.size = sl.kind.size := by simpa [widthFits] using hwidth
  rw [length_flatMap_packPattern hsize, shapeFits_length hshape, Slot.bytes]

/-- R104: `len(P)` of what fits a layout. -/
theorem packed_length_of_fitsLayout {L : List Slot} {V : List Value} (h : fitsLayout L V = true) :
    ((flatten V).flatMap packPattern).length = layoutLen L := by
  induction L generalizing V with
  | nil =>
    cases V with
    | nil => rfl
    | cons v V => simp at h
  | cons sl L ih =>
    cases V with
    | nil => simp at h
    | cons v V =>
      obtain ⟨hv, hV⟩ : fitsSlot sl v = true ∧ fitsLayout L V = true := by simpa using h
      rw [flatten_cons, List.flatMap_append, List.length_append, packed_length_of_fitsSlot hv, ih hV, layoutLen_cons]

/-- R104: a wrong number of values, or one value of another shape, does not fit. -/
theorem not_fitsLayout_of_shape {L : List Slot} {V : List Value}
    (h : V.length ≠ L.length ∨ ∃ p ∈ L.zip V, shapeFits p.1 p.2 = false) : ¬ fitsLayout L V = true := by
  intro hfits
  obtain ⟨hlen, hall⟩ : V.length = L.length ∧ ∀ p ∈ L.zip V, fitsSlot p.1 p.2 = true := by
    simpa only [fitsLayout, Bool.and_eq_true, beq_iff_eq, List.all_eq_true] using hfits
  rcases h with hcount | ⟨p, hp, hshape⟩
  · exact hcount hlen
  · have hslot := hall p hp
    simp [fitsSlot, hshape] at hslot

/-- R105: the result is a flat sequence whose elements have these widths and pack to these bytes. -/
def ReadsAs (r : Except Err (List Pattern)) (widths : List Nat) (bytes : List Byte) : Prop :=
  ∃ T, r = .ok T ∧ T.map Pattern.size = widths ∧ T.flatMap packPattern = bytes

/-- R79: the one element an unpack reads has the kind's width and packs to the bytes it was read from. -/
theorem unpackKind_reads {k : Kind} {S : List Byte} {off : Nat} (h : off + k.size ≤ S.length) :
    ∃ p, unpackKind k S off = .ok p ∧ p.size = k.size ∧ packPattern p = (S.drop off).take k.size := by
  refine ⟨_, unpackKind_ok k S off h, Kind.pattern_size k _, packPattern_unle k ?_⟩
  rw [List.length_take, List.length_drop]
  omega

/-- R105: n elements of one kind, where their bytes are present. -/
theorem unpackElems_reads {k : Kind} {S : List Byte} {n off : Nat} (h : off + n * k.size ≤ S.length) :
    ReadsAs (unpackElems k S n off) (List.replicate n k.size) ((S.drop off).take (n * k.size)) := by
  induction n generalizing off with
  | zero => exact ⟨[], rfl, rfl, by simp⟩
  | succ n ih =>
    rw [Nat.succ_mul] at h
    obtain ⟨p, hp, hsize, hbytes⟩ := unpackKind_reads (k := k) (S := S) (off := off) (by omega)
    obtain ⟨T, hT, hsizes, hrest⟩ := ih (off := off + k.size) (by omega)
    refine ⟨p :: T, ?_, ?_, ?_⟩
    · simp only [unpackElems, hp, hT]
    · rw [List.map_cons, hsize, hsizes, List.replicate_succ]
    · rw [List.flatMap_cons, hbytes, hrest, Nat.succ_mul, Nat.add_comm (n * k.size), List.take_add, List.drop_drop]

/-- R105: n elements of one kind, where their bytes run out. -/
theorem unpackElems_truncated {k : Kind} {S : List Byte} {n off : Nat} (hoff : off ≤ S.length)
    (h : S.length < off + n * k.size) : unpackElems k S n off = .error .truncatedPayload := by
  induction n generalizing off with
  | zero => omega
  | succ n ih =>
    rw [Nat.succ_mul] at h
    by_cases hfirst : off + k.size ≤ S.length
    · obtain ⟨p, hp, -⟩ := unpackKind_reads hfirst
      simp only [unpackElems, hp, ih hfirst (by omega)]
    · simp only [unpackElems, unpackKind_error k S off (by omega)]

/-- R105: the slots of a layout, where their bytes are present. -/
theorem unpackFrom_reads {S : List Byte} {L : List Slot} {off : Nat} (h : off + layoutLen L ≤ S.length) :
    ReadsAs (unpackFrom S L off) (L.flatMap fun sl => List.replicate sl.fc sl.kind.size)
      ((S.drop off).take (layoutLen L)) := by
  induction L generalizing off with
  | nil => exact ⟨[], rfl, rfl, by simp⟩
  | cons sl L ih =>
    rw [layoutLen_cons] at h
    obtain ⟨T, hT, hsizes, hbytes⟩ :=
      unpackElems_reads (k := sl.kind) (S := S) (n := sl.fc) (off := off) (by rw [← Slot.bytes]; omega)
    obtain ⟨T', hT', hsizes', hrest⟩ := ih (off := off + sl.bytes) (by omega)
    refine ⟨T ++ T', ?_, ?_, ?_⟩
    · simp only [unpackFrom, hT, hT']
    · rw [List.map_append, hsizes, hsizes', List.flatMap_cons]
    · rw [List.flatMap_append, hbytes, hrest, ← Slot.bytes, layoutLen_cons, List.take_add, List.drop_drop]

/-- R105: the slots of a layout, where their bytes run out. -/
theorem unpackFrom_truncated {S : List Byte} {L : List Slot} {off : Nat} (hoff : off ≤ S.length)
    (h : S.length < off + layoutLen L) : unpackFrom S L off = .error .truncatedPayload := by
  induction L generalizing off with
  | nil => rw [layoutLen_nil] at h; omega
  | cons sl L ih =>
    rw [layoutLen_cons] at h
    by_cases hfirst : off + sl.bytes ≤ S.length
    · obtain ⟨T, hT, -⟩ := unpackElems_reads (n := sl.fc) (k := sl.kind) hfirst
      simp only [unpackFrom, hT, ih hfirst (by omega)]
    · simp only [unpackFrom, unpackElems_truncated hoff (not_le.mp hfirst)]

end Machine

open Machine

/-- Settles O13: the two answers of `pack_layout`, with the length summed slot by slot. -/
theorem packLayoutConcatenatesOrRefuses : Obligations.PackLayoutConcatenatesOrRefuses := by
  intro s L V
  refine ⟨fun hfits => ⟨?bytes, ?length⟩, fun hshape => ?refused⟩
  case bytes => exact answers_of_deliver_ok (exec_packLayout s L V) ((packLayout_eq L V).trans (if_pos hfits))
  case length => rw [packed_length_of_fitsLayout hfits, layoutLen_eq_sum]
  case refused =>
    exact answers_of_deliver_error (exec_packLayout s L V)
      ((packLayout_eq L V).trans (if_neg (not_fitsLayout_of_shape hshape)))

/-- Settles O14: the walk over the slots from byte 0, where the layout's bytes are present and where they run out. -/
theorem unpackLayoutReadsTheFlatSequence : Obligations.UnpackLayoutReadsTheFlatSequence := by
  intro s L S size
  have hsize : layoutLen L = size := layoutLen_eq_sum L
  constructor
  · intro h
    obtain ⟨T, hT, hsizes, hbytes⟩ := unpackFrom_reads (S := S) (L := L) (off := 0) (by omega)
    rw [hsize, List.drop_zero] at hbytes
    exact ⟨T, answers_of_deliver_ok (exec_unpackLayout s L S) hT, hsizes, hbytes⟩
  · intro h
    exact answers_of_deliver_error (exec_unpackLayout s L S) (unpackFrom_truncated (L := L) (Nat.zero_le _) (by omega))

end Sys2Proof
end

section
/-! PROOFS. The header codec (42_header_codec.md R107 to R110): what each pack and unpack computes, case by case, and that
the operations answer it. Too few bytes to unpack are `hdrUnpackV1_short` and `hdrUnpackV2_short` of the laws. -/

namespace Sys2Proof

namespace Machine

/-- R107: an id that one byte holds. -/
theorem hdrPackV1_ok {h : Header} (hid : h.msgid.toNat ≤ 255) :
    hdrPackV1 h = .ok [h.marker, h.plen, h.seq, h.sysid, h.compid, h.msgid.extractLsb' 0 8] :=
  if_neg (not_lt.mpr hid)

/-- R107: an id that one byte does not hold. -/
theorem hdrPackV1_error {h : Header} (hid : 255 < h.msgid.toNat) :
    hdrPackV1 h = .error (.messageIdRange h.msgid) :=
  if_pos hid

/-- R16: `zext` is the library's change of width. -/
theorem zext_eq_setWidth {w : Nat} (n : Nat) (v : BitVec w) : zext n v = v.setWidth n := BitVec.ofNat_toNat n v

/-- R17: three bytes as a number, the first one least significant. -/
theorem unle_three (b0 b1 b2 : Byte) : unle [b0, b1, b2] = b0.toNat + 256 * b1.toNat + 65536 * b2.toNat := by
  rw [unle_cons, unle_two]
  omega

/-- R109: six bytes or more; those after the sixth are not read. -/
theorem hdrUnpackV1_ok (b0 b1 b2 b3 b4 b5 : Byte) (rest : List Byte) :
    hdrUnpackV1 (b0 :: b1 :: b2 :: b3 :: b4 :: b5 :: rest) =
      .ok { marker := b0, plen := b1, seq := b2, sysid := b3, compid := b4, msgid := b5.setWidth 24,
            incompatFlags := 0, compatFlags := 0 } := by
  rw [hdrUnpackV1, zext_eq_setWidth]

/-- R110: ten bytes or more; those after the tenth are not read. -/
theorem hdrUnpackV2_ok (b0 b1 b2 b3 b4 b5 b6 b7 b8 b9 : Byte) (rest : List Byte) :
    hdrUnpackV2 (b0 :: b1 :: b2 :: b3 :: b4 :: b5 :: b6 :: b7 :: b8 :: b9 :: rest) =
      .ok { marker := b0, plen := b1, incompatFlags := b2, compatFlags := b3, seq := b4, sysid := b5, compid := b6,
            msgid := BitVec.ofNat 24 (b7.toNat + 256 * b8.toNat + 65536 * b9.toNat) } := by
  rw [hdrUnpackV2, unle_three]

/-- R108: every header packs, and only the response is written. -/
theorem exec_hdrPackV2_answers (s : State) (h : Header) : Answers (.hdrPackV2 h) s (.bytes (hdrPackV2 h)) := by
  rw [Answers, exec_hdrPackV2, execHdrPackV2, ret_eq, State.respond]

end Machine

open Machine

/-- Settles O16: V1 by whether the id fits one byte, V2 for every header. -/
theorem headerPackLaysOutItsFields : Obligations.HeaderPackLaysOutItsFields := by
  intro s h
  refine ⟨fun hid => ?inRange, fun hid => ?outOfRange, ?v2⟩
  case inRange => exact answers_of_deliver_ok (exec_hdrPackV1 s h) (hdrPackV1_ok hid)
  case outOfRange => exact answers_of_deliver_error (exec_hdrPackV1 s h) (hdrPackV1_error hid)
  case v2 => exact exec_hdrPackV2_answers s h

/-- Settles O17: each version by whether its header's bytes are present. -/
theorem headerUnpackReadsItsFields : Obligations.HeaderUnpackReadsItsFields := by
  refine ⟨?v1, ?v1Short, ?v2, ?v2Short⟩
  case v1 =>
    intro s b0 b1 b2 b3 b4 b5 rest
    exact answers_of_deliver_ok (exec_hdrUnpackV1 s _) (hdrUnpackV1_ok b0 b1 b2 b3 b4 b5 rest)
  case v1Short =>
    intro s S hS
    exact answers_of_deliver_error (exec_hdrUnpackV1 s S) (hdrUnpackV1_short hS)
  case v2 =>
    intro s b0 b1 b2 b3 b4 b5 b6 b7 b8 b9 rest
    exact answers_of_deliver_ok (exec_hdrUnpackV2 s _) (hdrUnpackV2_ok b0 b1 b2 b3 b4 b5 b6 b7 b8 b9 rest)
  case v2Short =>
    intro s S hS
    exact answers_of_deliver_error (exec_hdrUnpackV2 s S) (hdrUnpackV2_short hS)

end Sys2Proof
end

section
/-! PROOFS. The send-side reordering and the truncation (43_framer_encode.md R113, R114). -/

namespace Sys2Proof

namespace Machine

section
variable {α : Type}

/-- R113: the loop leaves every place that `order_map` does not name. -/
theorem scatter_getElem?_of_not_mem {ws : List Nat} {w : Nat} (hw : w ∉ ws) (vs W : List α) :
    (scatter ws vs W)[w]? = W[w]? := by
  induction ws generalizing vs W with
  | nil => rfl
  | cons w' ws ih =>
    obtain ⟨hne, hnot⟩ := not_or.mp (List.mem_cons.not.mp hw)
    cases vs with
    | nil => rfl
    | cons v vs => rw [scatter, ih hnot, List.getElem?_set_ne (Ne.symm hne)]

/-- R113: a place that is named once holds, after the loop, the value that was sent there. -/
theorem scatter_getElem? {ws : List Nat} {vs W : List α} {i w : Nat} (hnodup : ws.Nodup)
    (hlt : ∀ w ∈ ws, w < W.length) (hlen : vs.length = ws.length) (hi : ws[i]? = some w) :
    (scatter ws vs W)[w]? = vs[i]? := by
  induction ws generalizing vs W i with
  | nil => simp at hi
  | cons w' ws ih =>
    obtain ⟨hnot, hnodup⟩ := List.nodup_cons.mp hnodup
    obtain ⟨hlt', hlt⟩ := List.forall_mem_cons.mp hlt
    cases vs with
    | nil => simp at hlen
    | cons v vs =>
      rw [scatter]
      cases i with
      | zero =>
        obtain rfl : w' = w := by simpa using hi
        rw [scatter_getElem?_of_not_mem hnot, List.getElem?_set_self hlt', List.getElem?_cons_zero]
      | succ i => exact ih hnodup (by simpa using hlt) (by simpa using hlen) (by simpa using hi)

end

end Machine

/-- R31: a permutation of the wire slots names every one of them. -/
theorem Descriptor.WellFormed.mem_orderMap {d : Descriptor} (hwf : d.WellFormed) {w : Nat}
    (hw : w < d.declared.length) : w ∈ d.orderMap := by
  obtain ⟨hwire, hcount, hnodup, hlt, -⟩ := hwf
  have hsub : d.orderMap ⊆ List.range d.declared.length := fun w hw => List.mem_range.mpr (hwire ▸ hlt w hw)
  have hperm : d.orderMap.Perm (List.range d.declared.length) :=
    (hnodup.subperm hsub).perm_of_length_le (by rw [List.length_range, hcount])
  exact hperm.mem_iff.mpr (List.mem_range.mpr hw)

namespace Machine

section
variable {d : Descriptor} {V W W' : List Value}

theorem inWireOrder_scatter (hwf : d.WellFormed) (hlen : V.length = d.declared.length) :
    InWireOrder d V (scatter d.orderMap V V) := by
  obtain ⟨hwire, hcount, hnodup, hlt, -⟩ := hwf
  refine ⟨scatter_length .., fun i w hi => scatter_getElem? hnodup (fun w hw => ?_) (hlen.trans hcount.symm) hi⟩
  rw [hlen, ← hwire]
  exact hlt w hw

/-- R113: "every place of `W` is written exactly once", so the declared values fix the wire order. -/
theorem InWireOrder.unique (hwf : d.WellFormed) (hlen : V.length = d.declared.length)
    (h : InWireOrder d V W) (h' : InWireOrder d V W') : W = W' := by
  obtain ⟨hcount, hplaces⟩ := h
  obtain ⟨hcount', hplaces'⟩ := h'
  refine List.ext_getElem? fun w => ?_
  by_cases hw : w < V.length
  · obtain ⟨i, hi⟩ := List.mem_iff_getElem?.mp (hwf.mem_orderMap (hlen ▸ hw))
    rw [hplaces i w hi, hplaces' i w hi]
  · rw [List.getElem?_eq_none (by omega), List.getElem?_eq_none (by omega)]

theorem reorderD2w_ok (hlen : V.length = d.declared.length) :
    reorderD2w d V = .ok (scatter d.orderMap V V) :=
  if_neg (not_not.mpr hlen)

theorem reorderD2w_error (hlen : V.length ≠ d.declared.length) : reorderD2w d V = .error .valueShape :=
  if_pos hlen

/-- R113: the reordering answers the one list that is in wire order. -/
theorem reorderD2w_of_inWireOrder (hwf : d.WellFormed) (hlen : V.length = d.declared.length)
    (hW : InWireOrder d V W) : reorderD2w d V = .ok W := by
  rw [reorderD2w_ok hlen, (inWireOrder_scatter hwf hlen).unique hwf hlen hW]

/-- R113, R146: over a well-formed descriptor the operation is the pure reordering. -/
theorem exec_reorderD2w_of_wf (hwf : d.WellFormed) (V : List Value) (s : State) :
    exec (.reorderD2w d V) s = deliver (reorderD2w d V) .values s := by
  rw [exec_reorderD2w, execReorderD2w, if_pos hwf]

end

section
variable (P : List Byte)

/-- R114: what the truncation removes is zeros. -/
theorem truncZ_append_zeros : truncZ P ++ zeros (P.length - truncLen P P.length) = P := by
  have hdrop : P.drop (truncLen P P.length) = zeros (P.length - truncLen P P.length) := by
    refine List.eq_replicate_iff.mpr ⟨List.length_drop, fun b hb => ?_⟩
    obtain ⟨i, hi, rfl⟩ := List.mem_drop_iff_getElem.mp hb
    have hzero := truncLen_zeros P P.length _ (Nat.le_add_right _ i) (by omega)
    rwa [List.getD_eq_getElem] at hzero
  rw [← hdrop, truncZ, List.take_append_drop]

variable {P}

theorem truncZ_ne_nil (h : P ≠ []) : truncZ P ≠ [] := by
  have hpos := truncLen_pos P P.length (List.length_pos_iff.mpr h)
  rw [← List.length_pos_iff, truncZ_length]
  exact hpos

/-- R114: what is left ends at length 1 or in a byte that is not zero. -/
theorem truncZ_getLast? (h : 1 < (truncZ P).length) : (truncZ P).getLast? ≠ some 0 := by
  rw [truncZ_length] at h
  have hle := truncLen_le P P.length
  have hlast := truncLen_stop P P.length h
  rw [List.getD_eq_getElem?_getD] at hlast
  intro hzero
  rw [List.getLast?_eq_getElem?, truncZ_length, truncZ, List.getElem?_take_of_lt (by omega)] at hzero
  exact hlast (by rw [hzero, Option.getD_some])

/-- R114: without a trailing zero, or at length 1 at most, nothing is removed. -/
theorem truncZ_eq_self (h : 1 < P.length → P.getLast? ≠ some 0) : truncZ P = P := by
  have hle := truncLen_le P P.length
  have hpos := truncLen_pos P P.length
  have hlen : truncLen P P.length = P.length := by
    by_contra hne
    have hzero := truncLen_zeros P P.length (P.length - 1) (by omega) (by omega)
    rw [List.getD_eq_getElem _ _ (by omega)] at hzero
    refine h (by omega) ?_
    rw [List.getLast?_eq_getElem?, List.getElem?_eq_getElem (by omega), hzero]
  rw [truncZ, hlen, List.take_length]

end

/-- R114: every byte sequence is truncated, and only the response is written. -/
theorem exec_truncZ_answers (s : State) (P : List Byte) : Answers (.truncZ P) s (.bytes (truncZ P)) := by
  rw [Answers, exec_truncZ, execTruncZ, ret_eq, State.respond]

end Machine

open Machine

/-- Settles O19: the scattered list is in wire order, by what the loop leaves at each place. -/
theorem reorderPutsValuesInWireOrder : Obligations.ReorderPutsValuesInWireOrder := by
  intro s d V hwf
  have hexec := exec_reorderD2w_of_wf hwf V s
  exact ⟨fun hlen => ⟨_, answers_of_deliver_ok hexec (reorderD2w_ok hlen), inWireOrder_scatter hwf hlen⟩,
    fun hlen => answers_of_deliver_error hexec (reorderD2w_error hlen)⟩

/-- Settles O20: `truncZ P` with the zeros it removes; it is its own truncation, for it ends in no zero. -/
theorem truncationStripsTrailingZeros : Obligations.TruncationStripsTrailingZeros := by
  intro s P
  have hagain := exec_truncZ_answers s (truncZ P)
  rw [truncZ_eq_self truncZ_getLast?] at hagain
  exact ⟨truncZ P, _, exec_truncZ_answers s P, (truncZ_append_zeros P).symm, truncZ_ne_nil, truncZ_getLast?, hagain⟩

end Sys2Proof
end

section
/-! PROOFS. FRAME.ENC and SESSION.SENT (43_framer_encode.md R115, R117): the encoding step by step, each step's error and
what it hands to the next. -/

namespace Sys2Proof

namespace Machine

/-- R69: the checksum of a frame, as one fold over the covered bytes. -/
theorem frameChecksum_eq_coveredChecksum (H P : List Byte) (salt : Byte) :
    frameChecksum H P salt = coveredChecksum H P salt := by
  rw [frameChecksum_eq, crcFold, seed_eq, coveredChecksum]

/-- R115 step 3: truncation belongs to version 2. -/
theorem wirePayload_eq (v : Version) (Q : List Byte) : wirePayload v Q = if v = .v2 then truncZ Q else Q := by
  cases v <;> rfl

section
variable {s : State} {d : Descriptor}

/-- R115 step 4: the header is refused in version 1 only, for an id that one byte does not hold. -/
theorem hdrPack_encHeader_error {n : Nat} (hv : s.cfg.version = .v1) (hid : 255 < d.id.toNat) :
    hdrPack s.cfg.version (encHeader s.cfg s.seq s.sysid s.compid d n) = .error (.messageIdRange d.id) := by
  rw [hv]
  exact hdrPackV1_error hid

theorem hdrPack_encHeader_ok (n : Nat) (hid : s.cfg.version = .v1 → d.id.toNat ≤ 255) :
    hdrPack s.cfg.version (encHeader s.cfg s.seq s.sysid s.compid d n) = .ok (sentHeader s d n) := by
  cases hv : s.cfg.version with
  | v1 =>
    refine (hdrPackV1_ok (hid hv)).trans ?_
    simp only [encHeader, sentHeader, hv, Config.marker_of_v1 hv, markerV1]
  | v2 => simp only [hdrPack, hdrPackV2, encHeader, sentHeader, hv, Config.marker_of_v2 hv]

variable {P : List Byte}

theorem encPayload_tooLong (h : 255 < P.length) :
    encPayload s.cfg s.seq s.sysid s.compid d P = .error (.payloadTooLong P.length) :=
  if_pos h

theorem encPayload_idRange (hP : P.length ≤ 255) (hv : s.cfg.version = .v1) (hid : 255 < d.id.toNat) :
    encPayload s.cfg s.seq s.sysid s.compid d P = .error (.messageIdRange d.id) := by
  rw [encPayload, if_neg (not_lt.mpr hP), hdrPack_encHeader_error hv hid]

/-- R115 steps 4 to 6: header, payload, and the trailer with its low byte first. -/
theorem encPayload_ok (hP : P.length ≤ 255) (hid : s.cfg.version = .v1 → d.id.toNat ≤ 255) :
    let H := sentHeader s d P.length
    let c := coveredChecksum H P d.salt
    encPayload s.cfg s.seq s.sysid s.compid d P = .ok (H ++ P ++ [c.extractLsb' 0 8, c.extractLsb' 8 8]) := by
  intro H c
  have htrailer : le 2 c.toNat = [c.extractLsb' 0 8, c.extractLsb' 8 8] := le_toNat_eq_map_extractLsb' 2 c
  rw [encPayload, if_neg (not_lt.mpr hP), hdrPack_encHeader_ok P.length hid]
  simp only [frameChecksum_eq_coveredChecksum, ← htrailer, H, c]

variable {V W : List Value}

theorem encodeFrame_of_reorder_error {e : Err} (hW : reorderD2w d V = .error e) :
    encodeFrame s.cfg s.seq s.sysid s.compid d V = .error e := by
  rw [encodeFrame, hW]

/-- R115 step 2: a list in wire order that does not fit the layout. -/
theorem encodeFrame_of_not_fits (hW : reorderD2w d V = .ok W) (hfits : ¬ fitsLayout d.wire W = true) :
    encodeFrame s.cfg s.seq s.sysid s.compid d V = .error .valueShape := by
  simp only [encodeFrame, hW, packLayout_eq, if_neg hfits]

/-- R115 steps 1 to 3: a fitting list is serialized, truncated in version 2, and framed. -/
theorem encodeFrame_of_fits (hW : reorderD2w d V = .ok W) (hfits : fitsLayout d.wire W = true) :
    encodeFrame s.cfg s.seq s.sysid s.compid d V =
      encPayload s.cfg s.seq s.sysid s.compid d (wirePayload s.cfg.version ((flatten W).flatMap packPattern)) := by
  simp only [encodeFrame, hW, packLayout_eq, if_pos hfits]

/-- R115, R146: over a well-formed descriptor the operation is the pure encoding with the session's registers. -/
theorem exec_frameEnc_of_wf (hwf : d.WellFormed) (V : List Value) (s : State) :
    exec (.frameEnc d V) s = deliver (encodeFrame s.cfg s.seq s.sysid s.compid d V) .bytes s := by
  rw [exec_frameEnc, execFrameEnc, if_pos hwf]

end

theorem exec_sessionSent_next (s : State) (n : Nat) :
    exec (.sessionSent n) s = .next ((s.countSent n).respond .done) := by
  rw [exec_sessionSent, execSessionSent, ret_eq]

/-- R117: adding 1 to a byte is adding 1 modulo 256. -/
theorem byte_add_one_eq (b : Byte) : b + 1 = BitVec.ofNat 8 ((b.toNat + 1) % 256) := by
  bv_omega

end Machine

open Machine

/-- Settles O21: the errors in the rule's order, then the frame; the premise fixes the list in wire order. -/
theorem frameEncBuildsTheFrameOrRefuses : Obligations.FrameEncBuildsTheFrameOrRefuses := by
  intro s d V hwf
  have hexec := exec_frameEnc_of_wf hwf V s
  refine ⟨fun hlen => ?count, fun W hlen horder => ⟨fun hshape => ?shape, ?framed⟩⟩
  case count => exact answers_of_deliver_error hexec (encodeFrame_of_reorder_error (reorderD2w_error hlen))
  all_goals have hW := reorderD2w_of_inWireOrder hwf hlen horder
  case shape =>
    exact answers_of_deliver_error hexec (encodeFrame_of_not_fits hW (not_fitsLayout_of_shape (.inr hshape)))
  case framed =>
    intro hfits Q P
    have hP : encodeFrame s.cfg s.seq s.sysid s.compid d V = encPayload s.cfg s.seq s.sysid s.compid d P :=
      (encodeFrame_of_fits hW hfits).trans (by rw [wirePayload_eq])
    rw [hP] at hexec
    exact ⟨fun hlong => answers_of_deliver_error hexec (encPayload_tooLong hlong),
      fun hfit hv hid => answers_of_deliver_error hexec (encPayload_idRange hfit hv hid),
      fun hfit hid => answers_of_deliver_ok hexec (encPayload_ok hfit hid)⟩

/-- Settles O22: the next state is `countSent`, whose byte addition wraps. -/
theorem sessionSentAdvancesTheSendRegisters : Obligations.SessionSentAdvancesTheSendRegisters := by
  intro s n
  rw [exec_sessionSent_next, State.respond, State.countSent, byte_add_one_eq]

end Sys2Proof
end

section
/-! PROOFS. What an operation can do to the session's state, once for all instructions; and R116, R123: what FRAME.ENC
reads is written by SESSION.SENT only (43_framer_encode.md, 44_framer_decode.md). -/

namespace Sys2Proof

namespace Machine

/-- R126 to R132: the registers and fields that FEED does not write. -/
structure SameButReceive (s t : State) : Prop where
  crc : t.crc = s.crc
  seq : t.seq = s.seq
  sysid : t.sysid = s.sysid
  compid : t.compid = s.compid
  pktsSent : t.pktsSent = s.pktsSent
  bytesSent : t.bytesSent = s.bytesSent
  cfg : t.cfg = s.cfg
  requests : t.requests = s.requests
  response : t.response = s.response

namespace SameButReceive

theorem refl (s : State) : SameButReceive s s := ⟨rfl, rfl, rfl, rfl, rfl, rfl, rfl, rfl, rfl⟩

theorem trans {s t u : State} (h : SameButReceive s t) (h' : SameButReceive t u) : SameButReceive s u :=
  ⟨h'.crc.trans h.crc, h'.seq.trans h.seq, h'.sysid.trans h.sysid, h'.compid.trans h.compid,
    h'.pktsSent.trans h.pktsSent, h'.bytesSent.trans h.bytesSent, h'.cfg.trans h.cfg, h'.requests.trans h.requests,
    h'.response.trans h.response⟩

end SameButReceive

section
variable (s : State)

theorem receive_sameButReceive (chunk : List Byte) : SameButReceive s (s.receive chunk) :=
  ⟨rfl, rfl, rfl, rfl, rfl, rfl, rfl, rfl, rfl⟩

theorem dropHead_sameButReceive : SameButReceive s s.dropHead := ⟨rfl, rfl, rfl, rfl, rfl, rfl, rfl, rfl, rfl⟩

theorem dropFrame_sameButReceive : SameButReceive s s.dropFrame := ⟨rfl, rfl, rfl, rfl, rfl, rfl, rfl, rfl, rfl⟩

theorem countPacket_sameButReceive : SameButReceive s s.countPacket := ⟨rfl, rfl, rfl, rfl, rfl, rfl, rfl, rfl, rfl⟩

theorem countError_sameButReceive : SameButReceive s s.countError := ⟨rfl, rfl, rfl, rfl, rfl, rfl, rfl, rfl, rfl⟩

theorem discoverLength_sameButReceive : SameButReceive s (discoverLength s) := by
  unfold discoverLength
  split
  · exact ⟨rfl, rfl, rfl, rfl, rfl, rfl, rfl, rfl, rfl⟩
  · exact .refl s

/-- R129, R130: the state after the extraction of a candidate. -/
theorem extract_sameButReceive : SameButReceive s (discoverLength s).dropFrame :=
  (discoverLength_sameButReceive s).trans (dropFrame_sameButReceive _)

end

/-- R128 to R131: each of the four things a pass can do writes receive registers only. -/
theorem feedPass_sameButReceive (s : State) :
    (∃ t, feedPass s = .stop t ∧ SameButReceive s t) ∨ ∃ t item, feedPass s = .again t item ∧ SameButReceive s t := by
  obtain ⟨b, rest, -, -, hpass⟩ | ⟨-, -, hpass⟩ | ⟨m, -, -, -, hpass⟩ | ⟨e, -, -, -, hpass⟩ := feedPass_cases s
  · exact .inr ⟨_, _, hpass, dropHead_sameButReceive s⟩
  · exact .inl ⟨_, hpass, discoverLength_sameButReceive s⟩
  · exact .inr ⟨_, _, hpass, (extract_sameButReceive s).trans (countPacket_sameButReceive _)⟩
  · exact .inr ⟨_, _, hpass, (extract_sameButReceive s).trans (countError_sameButReceive _)⟩

theorem feedLoop_sameButReceive (fuel : Nat) (s : State) : SameButReceive s (feedLoop fuel s).1 := by
  induction fuel generalizing s with
  | zero => exact .refl s
  | succ fuel ih =>
    obtain ⟨t, hpass, hsame⟩ | ⟨t, item, hpass, hsame⟩ := feedPass_sameButReceive s
    · rw [feedLoop_stop fuel hpass]
      exact hsame
    · rw [feedLoop_again fuel hpass]
      exact hsame.trans (ih t)

theorem feedChunk_sameButReceive (s : State) (chunk : List Byte) : SameButReceive s (feedChunk s chunk).1 :=
  (receive_sameButReceive s chunk).trans (feedLoop_sameButReceive _ _)

/-- R126: the state FEED leaves, with the returned sequence as its response. -/
def State.fed (chunk : List Byte) (s : State) : State :=
  (feedChunk s chunk).1.respond (.items (feedChunk s chunk).2)

section
variable {s t : State}

theorem ret_eq_next {r : Response} (h : ret r s = .next t) : t = s.respond r :=
  (Host.Outcome.next.inj h).symm

/-- R141: a delivered result or error depends on the state in nothing, and writes the response only. -/
theorem deliver_eq_next {α : Type} {x : Except Err α} {f : α → Response} (h : deliver x f s = .next t) :
    ∃ r, t = s.respond r ∧ ∀ u, deliver x f u = .next (u.respond r) := by
  cases x with
  | ok a => exact ⟨f a, ret_eq_next h, deliver_ok a f⟩
  | error e => exact ⟨.error e, ret_eq_next h, deliver_error e f⟩

/-- R146: an operation with a premise has a next state only where the premise holds. -/
theorem ite_refused_eq_next {p : Prop} [Decidable p] {o : Result} {x : Refusal}
    (h : (if p then o else .refused x) = .next t) : p ∧ o = .next t := by
  by_cases hp : p
  · exact ⟨hp, (if_pos hp).symm.trans h⟩
  · rw [if_neg hp] at h
    cases h

theorem runFeed_eq_next {chunk : List Byte} (h : runFeed chunk s = .next t) :
    s.cfg.WellFormed ∧ t = s.fed chunk := by
  obtain ⟨hwf, hret⟩ := ite_refused_eq_next h
  exact ⟨hwf, ret_eq_next hret⟩

end

/-- Everything an operation that completes can do to the session's state: answer; answer and write CRC; do the send
bookkeeping; take a chunk into the parser. -/
inductive Effect (s : State) : Instr → State → Prop
  | answer (i : Instr) (r : Response) : Effect s i (s.respond r)
  | crcInit : Effect s .crcInit ((s.setCrc seed).respond .done)
  | crcByte (b : Byte) : Effect s (.crcByte b) ((s.setCrc (crcStep s.crc b)).respond .done)
  | crcBuf (S : List Byte) : Effect s (.crcBuf S) ((s.setCrc (crcFold s.crc S)).respond .done)
  | crcSalt (salt : Byte) : Effect s (.crcSalt salt) ((s.setCrc (crcStep s.crc salt)).respond .done)
  | sent (n : Nat) : Effect s (.sessionSent n) ((s.countSent n).respond .done)
  | feed (chunk : List Byte) (hwf : s.cfg.WellFormed) : Effect s (.feed chunk) (s.fed chunk)
  | frameV1 (f : WireV1) (hwf : s.cfg.WellFormed) : Effect s (.frameV1 f) (s.fed f.bytes)
  | frameV2 (f : WireV2) (hwf : s.cfg.WellFormed) : Effect s (.frameV2 f) (s.fed f.bytes)

section
variable {s t : State} {i : Instr}

theorem effect_of_ret {r : Response} (h : ret r s = .next t) : Effect s i t :=
  ret_eq_next h ▸ .answer i r

theorem effect_of_deliver {α : Type} {x : Except Err α} {f : α → Response} (h : deliver x f s = .next t) :
    Effect s i t := by
  obtain ⟨r, rfl, -⟩ := deliver_eq_next h
  exact .answer i r

/-- The inversion of `exec`: what an instruction did, if it has a next state. -/
theorem exec_effect (h : exec i s = .next t) : Effect s i t := by
  cases i with
  | crcInit => exact ret_eq_next h ▸ .crcInit
  | crcByte b => exact ret_eq_next h ▸ .crcByte b
  | crcBuf S => exact ret_eq_next h ▸ .crcBuf S
  | crcSalt salt => exact ret_eq_next h ▸ .crcSalt salt
  | sessionSent n => exact ret_eq_next h ▸ .sent n
  | feed chunk =>
    obtain ⟨hwf, rfl⟩ := runFeed_eq_next h
    exact .feed chunk hwf
  | frameV1 f =>
    obtain ⟨hwf, rfl⟩ := runFeed_eq_next h
    exact .frameV1 f hwf
  | frameV2 f =>
    obtain ⟨hwf, rfl⟩ := runFeed_eq_next h
    exact .frameV2 f hwf
  | reorderD2w | frameEnc | reorderW2d | frameDec =>
    obtain ⟨-, hdeliver⟩ := ite_refused_eq_next h
    exact effect_of_deliver hdeliver
  | unpackI8 | unpackU8 | unpackI16 | unpackU16 | unpackI32 | unpackU32 | unpackI64 | unpackU64 | unpackF32 | unpackF64
  | unpackChar | packLayout | unpackLayout | hdrPackV1 | hdrUnpackV1 | hdrUnpackV2 => exact effect_of_deliver h
  | crcRead | packI8 | packU8 | packI16 | packU16 | packI32 | packU32 | packI64 | packU64 | packF32 | packF64 | packChar
  | hdrPackV2 | truncZ | zpad | statRead | reserved => exact effect_of_ret h

theorem runSeq_cons_eq_next {rest : List Instr} {u : State} (h : runSeq (i :: rest) s = .next u) :
    ∃ t, exec i s = .next t ∧ runSeq rest t = .next u := by
  rw [runSeq] at h
  split at h
  · exact ⟨_, ‹_›, h⟩
  · cases h
  · cases h

end

/-- R116: the registers a frame carries and the configuration, all that FRAME.ENC reads of a session. -/
structure SameSender (s t : State) : Prop where
  cfg : t.cfg = s.cfg
  seq : t.seq = s.seq
  sysid : t.sysid = s.sysid
  compid : t.compid = s.compid

namespace SameSender

theorem refl (s : State) : SameSender s s := ⟨rfl, rfl, rfl, rfl⟩

theorem trans {s t u : State} (h : SameSender s t) (h' : SameSender t u) : SameSender s u :=
  ⟨h'.cfg.trans h.cfg, h'.seq.trans h.seq, h'.sysid.trans h.sysid, h'.compid.trans h.compid⟩

theorem respond {s t : State} (h : SameSender s t) (r : Response) : SameSender s (t.respond r) :=
  ⟨h.cfg, h.seq, h.sysid, h.compid⟩

theorem setCrc (s : State) (c : Word16) : SameSender s (s.setCrc c) := ⟨rfl, rfl, rfl, rfl⟩

theorem of_sameButReceive {s t : State} (h : SameButReceive s t) : SameSender s t :=
  ⟨h.cfg, h.seq, h.sysid, h.compid⟩

theorem fed (s : State) (chunk : List Byte) : SameSender s (s.fed chunk) :=
  (of_sameButReceive (feedChunk_sameButReceive s chunk)).respond _

end SameSender

section
variable {s t u : State}

/-- R22, R116: every operation but SESSION.SENT keeps what FRAME.ENC reads. -/
theorem exec_sameSender {i : Instr} (hi : ∀ n, i ≠ .sessionSent n) (h : exec i s = .next t) : SameSender s t := by
  cases exec_effect h with
  | answer i r => exact (SameSender.refl s).respond r
  | crcInit | crcByte | crcBuf | crcSalt => exact (SameSender.setCrc s _).respond _
  | sent n => exact absurd rfl (hi n)
  | feed | frameV1 | frameV2 => exact SameSender.fed s _

theorem runSeq_sameSender {between : List Instr} (hbetween : ∀ i ∈ between, ∀ n, i ≠ .sessionSent n)
    (h : runSeq between s = .next u) : SameSender s u := by
  induction between generalizing s with
  | nil => exact Host.Outcome.next.inj h ▸ .refl s
  | cons i rest ih =>
    obtain ⟨hi, hrest⟩ := List.forall_mem_cons.mp hbetween
    obtain ⟨t, ht, hu⟩ := runSeq_cons_eq_next h
    exact (exec_sameSender hi ht).trans (ih hrest hu)

/-- R116: FRAME.ENC writes the response only, and gives it again wherever the session sends as the same sender. -/
theorem exec_frameEnc_eq_next {d : Descriptor} {V : List Value} (h : exec (.frameEnc d V) s = .next t) :
    ∃ r, t = s.respond r ∧ ∀ u, SameSender s u → exec (.frameEnc d V) u = .next (u.respond r) := by
  obtain ⟨hwf, hdeliver⟩ := ite_refused_eq_next h
  obtain ⟨r, ht, hagain⟩ := deliver_eq_next hdeliver
  refine ⟨r, ht, fun u hu => ?_⟩
  rw [exec_frameEnc_of_wf hwf, hu.cfg, hu.seq, hu.sysid, hu.compid]
  exact hagain u

/-- R123: FRAME.DEC writes the response only. -/
theorem exec_frameDec_eq_next {C : List Byte} (h : exec (.frameDec C) s = .next t) : ∃ r, t = s.respond r := by
  obtain ⟨-, hdeliver⟩ := ite_refused_eq_next h
  obtain ⟨r, ht, -⟩ := deliver_eq_next hdeliver
  exact ⟨r, ht⟩

end

end Machine

open Machine

/-- Settles O29: the same sender encodes the same, and only SESSION.SENT makes another sender, by induction over the
operations between. -/
theorem frameOperationsWriteNoState : Obligations.FrameOperationsWriteNoState := by
  refine ⟨?once, ?between, ?decode⟩
  case once =>
    intro s t d V h
    obtain ⟨r, rfl, hagain⟩ := exec_frameEnc_eq_next h
    exact ⟨rfl, hagain _ ((SameSender.refl s).respond r)⟩
  case between =>
    intro s t u d V between h hbetween hrun
    obtain ⟨r, rfl, hagain⟩ := exec_frameEnc_eq_next h
    exact hagain u (((SameSender.refl s).respond r).trans (runSeq_sameSender hbetween hrun))
  case decode =>
    intro s t C h
    obtain ⟨r, rfl⟩ := exec_frameDec_eq_next h
    rfl

end Sys2Proof
end

section
/-! PROOFS. The padding and the receive-side reordering (44_framer_decode.md R119 to R121). -/

namespace Sys2Proof

namespace Machine

section
variable {P : List Byte} {n : Nat}

theorem zpad_of_lt (h : P.length < n) : zpad P n = P ++ List.replicate (n - P.length) 0 := if_pos h

/-- R119: nothing is cut. -/
theorem zpad_of_le (h : n ≤ P.length) : zpad P n = P := if_neg (not_lt.mpr h)

end

/-- R119: every byte sequence is padded, and only the response is written. -/
theorem exec_zpad_answers (s : State) (P : List Byte) (n : Nat) : Answers (.zpad P n) s (.bytes (zpad P n)) := by
  rw [Answers, exec_zpad, execZpad, ret_eq, State.respond]

/-- R30: a slot's elements end inside the flat sequence. -/
theorem flatLen_take_add_fc_le {L : List Slot} {w : Nat} {sl : Slot} (h : L[w]? = some sl) :
    flatLen (L.take w) + sl.fc ≤ flatLen L := by
  induction L generalizing w with
  | nil => simp at h
  | cons sl' L ih =>
    cases w with
    | zero =>
      obtain rfl : sl' = sl := by simpa using h
      simp
    | succ w =>
      have hrest := ih (w := w) (by simpa using h)
      rw [List.take_succ_cons, flatLen_cons, flatLen_cons]
      omega

/-- R120: the flat index of a slot counts the elements of the slots before it. -/
theorem slotTip_eq_sum (d : Descriptor) (w : Nat) : d.slotTip w = ((d.wire.take w).map Slot.fc).sum :=
  flatLen_eq_sum _

section
variable {d : Descriptor} {T : List Pattern} {w : Nat} {sl : Slot}

/-- R120: a scalar slot's value is the element at its flat index, which a sequence of length `FL(d)` has. -/
theorem gatherSlot_scalar (hT : T.length = d.flatLen) (hsl : d.wire[w]? = some sl) (halen : sl.alen = 0) :
    some (gatherSlot d T w) = (T[d.slotTip w]?).map Value.scalar := by
  have htip : d.slotTip w < T.length := by
    have hend := flatLen_take_add_fc_le hsl
    have hfc := sl.fc_pos
    rw [hT, Descriptor.slotTip, Descriptor.flatLen]
    omega
  have hslot : (d.wire.map Slot.alen).getD w 0 = 0 := by simp [hsl, halen]
  simp only [gatherSlot, hslot, List.getD_eq_getElem _ _ htip, List.getElem?_eq_getElem htip, Option.map_some]

/-- R120: an array slot's value is its `alen` consecutive elements. -/
theorem gatherSlot_array (hsl : d.wire[w]? = some sl) (halen : sl.alen ≠ 0) :
    gatherSlot d T w = .array ((T.drop (d.slotTip w)).take sl.alen) := by
  have hslot : (d.wire.map Slot.alen).getD w 0 = sl.alen := by simp [hsl]
  obtain ⟨n, hn⟩ := Nat.exists_eq_succ_of_ne_zero halen
  simp only [gatherSlot, hslot, hn, slice_eq]

theorem reorderW2d_ok (hT : T.length = d.flatLen) : reorderW2d d T = .ok (d.orderMap.map (gatherSlot d T)) :=
  if_neg (not_not.mpr hT)

theorem reorderW2d_error (hT : T.length ≠ d.flatLen) : reorderW2d d T = .error .valueShape :=
  if_pos hT

/-- R120, R146: over a well-formed descriptor the operation is the pure reordering. -/
theorem exec_reorderW2d_of_wf (hwf : d.WellFormed) (T : List Pattern) (s : State) :
    exec (.reorderW2d d T) s = deliver (reorderW2d d T) .values s := by
  rw [exec_reorderW2d, execReorderW2d, if_pos hwf]

end

end Machine

open Machine

/-- Settles O24: `zpad` on either side of the length. -/
theorem zeroPadExtendsShortPayloads : Obligations.ZeroPadExtendsShortPayloads := by
  intro s P n
  have hzpad := exec_zpad_answers s P n
  constructor
  · intro h
    rwa [zpad_of_lt h] at hzpad
  · intro h
    rwa [zpad_of_le h] at hzpad

/-- Settles O26: declared field i is the value gathered from wire slot `order_map[i]`, by the slot's shape. -/
theorem reorderGathersDeclaredValues : Obligations.ReorderGathersDeclaredValues := by
  intro s d T hwf
  have hexec := exec_reorderW2d_of_wf hwf T s
  refine ⟨fun hT => ⟨_, answers_of_deliver_ok hexec (reorderW2d_ok hT), ?count, ?fields⟩,
    fun hT => answers_of_deliver_error hexec (reorderW2d_error hT)⟩
  case count =>
    obtain ⟨-, hcount, -⟩ := hwf
    rw [List.length_map, hcount]
  case fields =>
    intro i w sl hi hsl tip
    have htip : d.slotTip w = tip := slotTip_eq_sum d w
    rw [List.getElem?_map, hi, Option.map_some, ← htip]
    exact ⟨gatherSlot_scalar hT hsl, fun halen => congrArg some (gatherSlot_array hsl halen)⟩

end Sys2Proof
end

section
/-! PROOFS. FRAME.DEC (44_framer_decode.md R122): what the header codec reads of a candidate, then the decoding step by
step, each step's error and what it hands to the next. -/

namespace Sys2Proof

namespace Machine

/-- R57, R109, R110: the header's id is the candidate's; its marker and length are in `hdrUnpack_ok` of the laws. -/
theorem hdrUnpack_msgid {v : Version} {C : List Byte} {hd : Header} (h : v.headerSize ≤ C.length)
    (hhd : hdrUnpack v C = .ok hd) : hd.msgid = candidateId v C := by
  cases v with
  | v1 =>
    match C, h with
    | b0 :: b1 :: b2 :: b3 :: b4 :: b5 :: rest, _ =>
      obtain rfl := Except.ok.inj hhd
      rfl
  | v2 =>
    match C, h with
    | b0 :: b1 :: b2 :: b3 :: b4 :: b5 :: b6 :: b7 :: b8 :: b9 :: rest, _ =>
      obtain rfl := Except.ok.inj ((hdrUnpackV2_ok b0 b1 b2 b3 b4 b5 b6 b7 b8 b9 rest).symm.trans hhd)
      rfl

/-- R57: the trailer of a candidate is its last two bytes, the low byte first. -/
theorem trailer_eq_candidateCksum {C : List Byte} (h : 2 ≤ C.length) : trailer C = candidateCksum C := by
  have hdrop : C.drop (C.length - 2) = [C.getD (C.length - 2) 0, C.getD (C.length - 1) 0] := by
    rw [List.getD_eq_getElem _ _ (by omega), List.getD_eq_getElem _ _ (by omega),
      List.drop_eq_getElem_cons (by omega), List.drop_eq_getElem_cons (by omega), List.drop_eq_nil_of_le (by omega)]
    congr 3
    omega
  rw [trailer, hdrop, unle_two, candidateCksum, byteAt, byteAt]

/-- R122 step 5: the padding belongs to version 2. -/
theorem fullPayload_eq (v : Version) (P : List Byte) (n : Nat) :
    fullPayload v P n = if v = .v2 then P ++ List.replicate (n - P.length) 0 else P := by
  cases v with
  | v1 => rfl
  | v2 =>
    rw [fullPayload, if_pos rfl]
    by_cases h : P.length < n
    · exact zpad_of_lt h
    · rw [zpad_of_le (not_lt.mp h), Nat.sub_eq_zero_of_le (not_lt.mp h), List.replicate_zero, List.append_nil]

/-- R105: a layout's bytes, where they are present, unpack to `FL` elements. -/
theorem unpackLayout_ok {L : List Slot} {S : List Byte} (h : layoutLen L ≤ S.length) :
    ∃ T, unpackLayout L S = .ok T ∧ T.length = flatLen L := by
  obtain ⟨T, hT, hsizes, -⟩ := unpackFrom_reads (S := S) (L := L) (off := 0) (by omega)
  have hcount := congrArg List.length hsizes
  rw [List.length_map, List.length_flatMap] at hcount
  simp only [List.length_replicate] at hcount
  exact ⟨T, hT, hcount.trans (flatLen_eq_sum L).symm⟩

theorem unpackLayout_truncated {L : List Slot} {S : List Byte} (h : S.length < layoutLen L) :
    unpackLayout L S = .error .truncatedPayload :=
  unpackFrom_truncated (Nat.zero_le _) (by omega)

section
variable {d : Descriptor} {P : List Byte} (id : MsgId)

/-- R122 step 7: too few bytes for the layout. -/
theorem decodeValues_truncated (h : P.length < d.wireLen) : decodeValues d id P = .error .truncatedPayload := by
  rw [decodeValues, unpackLayout_truncated h]

/-- R122 steps 7 to 9: the Message of the unpacked and reordered values. -/
theorem decodeValues_ok (h : d.wireLen ≤ P.length) :
    ∃ T V, unpackLayout d.wire P = .ok T ∧ reorderW2d d T = .ok V ∧
      decodeValues d id P = .ok { id := id, values := V } := by
  obtain ⟨T, hT, hcount⟩ := unpackLayout_ok h
  have hV := reorderW2d_ok hcount
  exact ⟨T, _, hT, hV, by simp only [decodeValues, hT, hV]⟩

end

section
variable {c : Config} {C : List Byte}

/-- R122 step 1. -/
theorem decodeFrame_short (h : C.length < c.hs) : decodeFrame c C = .error .headerUnderrun := by
  rw [decodeFrame, hdrUnpack_short h]

/-- R122 step 2. -/
theorem decodeFrame_badMarker (h : c.hs ≤ C.length) (hmarker : byteAt C 0 ≠ c.marker.toNat) :
    decodeFrame c C = .error (.badMarker (C.getD 0 0)) := by
  obtain ⟨hd, hhd, hm, -⟩ := hdrUnpack_ok h
  have hne : hd.marker ≠ c.marker := fun heq => hmarker (by rw [byteAt, ← hm, heq])
  simp only [decodeFrame, hhd]
  rw [if_pos hne, hm]

/-- R122 step 3. -/
theorem decodeFrame_lengthMismatch (h : c.hs ≤ C.length) (hmarker : byteAt C 0 = c.marker.toNat)
    (hplen : (byteAt C 1 : Int) ≠ (C.length : Int) - c.hs - 2) :
    decodeFrame c C = .error (.lengthMismatch (C.getD 1 0) ((C.length : Int) - c.hs - 2)) := by
  obtain ⟨hd, hhd, hm, hp⟩ := hdrUnpack_ok h
  have heq : hd.marker = c.marker := BitVec.eq_of_toNat_eq (hm ▸ hmarker)
  rw [byteAt, ← hp] at hplen
  simp only [decodeFrame, hhd]
  rw [if_neg (not_not.mpr heq), if_pos hplen, hp]

section
variable (h : c.hs ≤ C.length) (hmarker : byteAt C 0 = c.marker.toNat)
  (hplen : (byteAt C 1 : Int) = (C.length : Int) - c.hs - 2)
include h hmarker hplen

/-- R122 steps 1 to 3 passed: a header with the session's marker and a true length byte. -/
theorem hdrUnpack_passes :
    ∃ hd, hdrUnpack c.version C = .ok hd ∧ hd.marker = c.marker ∧
      (hd.plen.toNat : Int) = (C.length : Int) - c.hs - 2 ∧
      hd.plen = C.getD 1 0 ∧ hd.msgid = candidateId c.version C := by
  obtain ⟨hd, hhd, hm, hp⟩ := hdrUnpack_ok h
  refine ⟨hd, hhd, BitVec.eq_of_toNat_eq (hm ▸ hmarker), ?_, hp, hdrUnpack_msgid h hhd⟩
  rw [hp]
  exact hplen

/-- R122 step 4. -/
theorem decodeFrame_unknownId (hnone : c.lookup (candidateId c.version C) = none) :
    decodeFrame c C = .error (.unknownMessageId (candidateId c.version C)) := by
  obtain ⟨hd, hhd, hm, hl, -, hid⟩ := hdrUnpack_passes h hmarker hplen
  simp only [decodeFrame, hhd, hm, hl, ne_eq, not_true_eq_false, if_false, hid, hnone]

/-- R122 steps 5 to 9: what is left to do for a registered id; the checksum is over the payload as received (C2). -/
theorem decodeFrame_registered {d : Descriptor} (hsome : c.lookup (candidateId c.version C) = some d) :
    let P := candidatePayload c.version C
    let expected := coveredChecksum (C.take c.hs) P d.salt
    decodeFrame c C =
      if expected ≠ candidateCksum C then .error (.checksumMismatch expected (candidateCksum C))
      else decodeValues d (candidateId c.version C) (fullPayload c.version P d.wireLen) := by
  intro P expected
  obtain ⟨hd, hhd, hm, hl, hp, hid⟩ := hdrUnpack_passes h hmarker hplen
  have hP : slice C c.hs (c.hs + hd.plen.toNat) = P := by
    rw [slice_eq, hp]
    rfl
  have hsum : frameChecksum (C.take c.hs) P d.salt = expected := frameChecksum_eq_coveredChecksum _ P d.salt
  have hbody : decodeFrame c C = decodeBody c d hd C := by
    simp only [decodeFrame, hhd, hm, hl, ne_eq, not_true_eq_false, if_false, hid, hsome]
  rw [hbody]
  simp only [decodeBody, hP, hsum, hid, trailer_eq_candidateCksum (C := C) (by omega)]

end

end

/-- R122, R146: in a session with a well-formed REGISTRY the operation is the pure decoding. -/
theorem exec_frameDec_of_wf {s : State} (hwf : s.cfg.WellFormed) (C : List Byte) :
    exec (.frameDec C) s = deliver (decodeFrame s.cfg C) .message s := by
  rw [exec_frameDec, execFrameDec, if_pos hwf]

end Machine

open Machine

/-- Settles O28: the errors in step order; past the checksum, by whether the layout's bytes are present. -/
theorem frameDecRunsItsStepsInOrder : Obligations.FrameDecRunsItsStepsInOrder := by
  intro s C hwf actual
  have hexec := exec_frameDec_of_wf hwf C
  refine ⟨fun hshort => ?short, fun h hmarker => ?marker, fun h hmarker hplen => ?length,
    fun h hmarker hplen => ⟨fun hnone => ?unknown, fun d hsome => ?registered⟩⟩
  case short => exact answers_of_deliver_error hexec (decodeFrame_short hshort)
  case marker => exact answers_of_deliver_error hexec (decodeFrame_badMarker h hmarker)
  case length => exact answers_of_deliver_error hexec (decodeFrame_lengthMismatch h hmarker hplen)
  case unknown => exact answers_of_deliver_error hexec (decodeFrame_unknownId h hmarker hplen hnone)
  case registered =>
    have hframe := decodeFrame_registered h hmarker hplen hsome
    simp only [fullPayload_eq] at hframe
    intro expected full
    refine ⟨fun hne => ?mismatch, fun heq hlen => ?truncated, fun heq hlen => ?message⟩
    case mismatch => exact answers_of_deliver_error hexec (hframe.trans (if_pos hne))
    all_goals replace hframe := hframe.trans (if_neg (not_not.mpr heq))
    case truncated => exact answers_of_deliver_error hexec (hframe.trans (decodeValues_truncated _ hlen))
    case message =>
      obtain ⟨hregistry, -⟩ := hwf
      obtain ⟨hmem, -⟩ := Config.lookup_some hsome
      obtain ⟨T, V, hT, hV, hmessage⟩ := decodeValues_ok (candidateId s.cfg.version C) hlen
      exact ⟨T, V, answers_of_deliver_ok (exec_unpackLayout s d.wire full) hT,
        answers_of_deliver_ok (exec_reorderW2d_of_wf (hregistry d hmem) T s) hV,
        answers_of_deliver_ok hexec (hframe.trans hmessage)⟩

end Sys2Proof
end

section
/-! PROOFS. The stream parser (45_stream_parser.md R126, R127, R131, R139): FEED as parsing what stands in RXBUF, and one
pass of it as the pass's result followed by FEED of nothing. -/

namespace Sys2Proof

namespace Machine

/-- An operation has one response. -/
theorem Answers.unique {i : Instr} {s : State} {r r' : Response} (h : Answers i s r) (h' : Answers i s r') : r = r' :=
  Option.some.inj (congrArg State.response (Host.Outcome.next.inj (h.symm.trans h')))

section
variable {s : State} {C : List Byte}

/-- R122: FRAME.DEC answers a Message only where the decoding gives it. -/
theorem decodeFrame_of_answers_message {m : Message} (h : Answers (.frameDec C) s (.message m)) :
    decodeFrame s.cfg C = .ok m := by
  obtain ⟨hwf, -⟩ := ite_refused_eq_next h
  have hexec := exec_frameDec_of_wf hwf C
  cases hdecode : decodeFrame s.cfg C with
  | ok m' => rw [Response.message.inj ((answers_of_deliver_ok hexec hdecode).unique h)]
  | error e => cases (answers_of_deliver_error hexec hdecode).unique h

/-- R122: FRAME.DEC answers an error only where the decoding fails with it. -/
theorem decodeFrame_of_answers_error {e : Err} (h : Answers (.frameDec C) s (.error e)) :
    decodeFrame s.cfg C = .error e := by
  obtain ⟨hwf, -⟩ := ite_refused_eq_next h
  have hexec := exec_frameDec_of_wf hwf C
  cases hdecode : decodeFrame s.cfg C with
  | ok m => cases (answers_of_deliver_ok hexec hdecode).unique h
  | error e' => rw [Response.error.inj ((answers_of_deliver_error hexec hdecode).unique h)]

end

/-- R134: any two bounds above the number of buffered bytes give the same loop, since each pass that goes on removes a
byte. -/
theorem feedLoop_fuel_irrelevant {m n : Nat} {s : State} (hm : s.rxbuf.length < m) (hn : s.rxbuf.length < n) :
    feedLoop m s = feedLoop n s := by
  induction m generalizing n s with
  | zero => omega
  | succ m ih =>
    obtain ⟨n, rfl⟩ : ∃ k, n = k + 1 := Nat.exists_eq_succ_of_ne_zero (by omega)
    cases hpass : feedPass s with
    | stop t => rw [feedLoop_stop m hpass, feedLoop_stop n hpass]
    | again t item =>
      have hshrinks := feedPass_shrinks hpass
      rw [feedLoop_again m hpass, feedLoop_again n hpass, ih (n := n) (by omega) (by omega)]

@[simp] theorem State.receive_nil (s : State) : s.receive [] = s := by
  simp [State.receive]

/-- R127: parsing begins once the chunk is in RXBUF and counted. -/
theorem feedChunk_receive (s : State) (chunk : List Byte) : feedChunk (s.receive chunk) [] = feedChunk s chunk := by
  rw [feedChunk, feedChunk, State.receive_nil]

/-- R127: the same of the operation; receiving a chunk leaves the configuration. -/
theorem exec_feed_nil_receive (s : State) (chunk : List Byte) :
    exec (.feed []) (s.receive chunk) = exec (.feed chunk) s := by
  rw [exec_feed, exec_feed, execFeed, execFeed, runFeed, runFeed, State.receive_cfg, feedChunk_receive]

/-- R146: in a session with a well-formed REGISTRY, FEED completes. -/
theorem exec_feed_of_wf {s : State} (hwf : s.cfg.WellFormed) (chunk : List Byte) :
    exec (.feed chunk) s = .next (s.fed chunk) := by
  rw [exec_feed, execFeed, runFeed, if_pos hwf, ret_eq, State.fed]

section
variable {s t : State} {item : Item}

/-- R128, R131: a pass that goes on leaves the session's configuration. -/
theorem feedPass_again_cfg (hpass : feedPass s = .again t item) : t.cfg = s.cfg := by
  obtain ⟨t', hstop, -⟩ | ⟨t', item', hagain, hsame⟩ := feedPass_sameButReceive s
  · cases hpass.symm.trans hstop
  · cases hpass.symm.trans hagain
    exact hsame.cfg

/-- R128, R131: a pass that goes on yields its result, and the rest is FEED of nothing in the state it left. -/
theorem feedChunk_nil_again (hpass : feedPass s = .again t item) :
    feedChunk s [] = ((feedChunk t []).1, item :: (feedChunk t []).2) := by
  have hshrinks := feedPass_shrinks hpass
  rw [feedChunk, feedChunk, State.receive_nil, State.receive_nil, feedLoop_again _ hpass,
    feedLoop_fuel_irrelevant hshrinks (Nat.lt_succ_self _)]

/-- R128, R131: the same of the operation: the pass's result stands first in the response. -/
theorem exec_feed_nil_again {u : State} {out : List Item} (hpass : feedPass s = .again t item)
    (hrest : exec (.feed []) t = .next u) (hout : u.response = some (.items out)) :
    exec (.feed []) s = .next { u with response := some (.items (item :: out)) } := by
  obtain ⟨hwf, rfl⟩ := runFeed_eq_next hrest
  obtain rfl : (feedChunk t []).2 = out := Response.items.inj (Option.some.inj hout)
  rw [exec_feed_of_wf (feedPass_again_cfg hpass ▸ hwf), State.fed, feedChunk_nil_again hpass]
  rfl

end

section
variable {s : State} {C : List Byte}

/-- R131: a candidate that decodes is counted and yields its Message. -/
theorem decodePass_ok {m : Message} (h : decodeFrame s.cfg C = .ok m) :
    decodePass s C = .again s.countPacket (.message m) := by
  rw [decodePass, h]

/-- R131: a candidate that fails is counted as an error and yields the event of its bytes. -/
theorem decodePass_error {e : Err} (h : decodeFrame s.cfg C = .error e) :
    decodePass s C = .again s.countError (.event { bytes := C, reason := e }) := by
  rw [decodePass, h]

end

/-- R129 to R131: with the marker at the head of RXBUF and as many bytes as the length byte asks for, the pass cuts them
off whole and decodes them. -/
theorem feedPass_candidate {s : State} {plen : Byte} {body rest : List Byte}
    (hbuf : s.rxbuf = (s.cfg.marker :: plen :: body) ++ rest)
    (hlen : (s.cfg.marker :: plen :: body).length = plen.toNat + s.cfg.hs + 2) :
    feedPass s = decodePass { s with rxbuf := rest, expectedLen := s.cfg.hs } (s.cfg.marker :: plen :: body) := by
  have hmarker : resyncByte s = none := resyncByte_none.mpr (.inr (by rw [hbuf]; rfl))
  have hlength : discoverLength s = s.setExpected (s.cfg.marker :: plen :: body).length :=
    hlen ▸ discoverLength_two hbuf
  have hready : frameReady (discoverLength s) = true := by
    rw [frameReady_iff, hlength, State.setExpected_rxbuf, hbuf, List.length_append]
    exact ⟨by rw [State.setExpected_expectedLen, hlen, State.setExpected_cfg]; omega, Nat.le_add_right ..⟩
  calc feedPass s
      = extractPass (discoverLength s) := by rw [feedPass, hmarker]
    _ = decodePass (discoverLength s).dropFrame (s.rxbuf.take (discoverLength s).expectedLen) := by
        rw [extractPass, if_pos hready, discoverLength_rxbuf]
    _ = _ := by
        rw [hlength, State.dropFrame, State.setExpected_rxbuf, State.setExpected_expectedLen, hbuf, List.take_left,
          List.drop_left]
        rfl

end Machine

open Machine

/-- Settles O37: the pass cuts and decodes the candidate, and FEED puts its result before those of the rest. -/
theorem feedCutsAndDecodesACandidate : Obligations.FeedCutsAndDecodesACandidate := by
  intro s t plen body rest out cand hbuf hlen hout
  have hpass := feedPass_candidate hbuf hlen
  refine ⟨fun m hdec hrest => ?message, fun e hdec hrest => ?event⟩
  case message =>
    have hdecode := decodeFrame_of_answers_message hdec
    exact exec_feed_nil_again (hpass.trans (decodePass_ok hdecode)) hrest hout
  case event =>
    have hdecode := decodeFrame_of_answers_error hdec
    exact exec_feed_nil_again (hpass.trans (decodePass_error hdecode)) hrest hout

/-- Settles O34: the state on the right is the one that has received the chunk. -/
theorem feedAppendsTheChunkFirst : Obligations.FeedAppendsTheChunkFirst :=
  fun s chunk => (exec_feed_nil_receive s chunk).symm

/-- Settles O45: the operation returns the six registers and ends in the state it began in. -/
theorem statReadReturnsTheCounters : Obligations.StatReadReturnsTheCounters := by
  intro s
  rw [Answers, exec_statRead, execStatRead, ret_eq, State.respond]

end Sys2Proof
end

section
/-! PROOFS. Encoding and decoding requests (30_encoding.md R52 to R55, R62 to R64): the two wire formats byte by byte,
and the operation codes by the shape of their operands. -/

namespace Sys2Proof

namespace Machine

/-- R17: a word of n bytes is what its little-endian bytes hold. -/
theorem ofNat_unle_le {w n : Nat} (hw : 256 ^ n = 2 ^ w) (v : BitVec w) : BitVec.ofNat w (unle (le n v.toNat)) = v := by
  refine ofNat_eq_of_toNat_eq ?_
  rw [unle_le, hw, v.toNat_mod_cancel]

/-- R17: the word that n bytes make has those bytes. -/
theorem le_ofNat_unle {w n : Nat} {S : List Byte} (hw : 256 ^ n = 2 ^ w) (hS : S.length = n) :
    le n (BitVec.ofNat w (unle S)).toNat = S := by
  have hlt := unle_lt S
  rw [hS, hw] at hlt
  rw [BitVec.toNat_ofNat, Nat.mod_eq_of_lt hlt, le_unle_of_length hS]

/-- R52: a payload length that the length byte holds. -/
theorem toNat_lengthByte {n : Nat} (h : n ≤ 255) : (BitVec.ofNat 8 n).toNat = n := by
  rw [BitVec.toNat_ofNat]
  omega

end Machine

open Machine

/-- R53: the decoder reads back the bytes of a V1 frame whose payload fits its length byte. -/
theorem decodeFrameV1_bytes {f : WireV1} (h : f.payload.length ≤ 255) : decodeFrameV1 f.bytes = .ok (.frameV1 f) := by
  have hrest : (f.payload ++ le 2 f.cksum.toNat).length = f.payload.length + 2 := by
    rw [List.length_append, le_length]
  have hframe : f.bytes = markerV1 :: BitVec.ofNat 8 f.payload.length :: f.seq :: f.sysid :: f.compid :: f.msgid ::
      (f.payload ++ le 2 f.cksum.toNat) := rfl
  rw [hframe, decodeFrameV1, toNat_lengthByte h, if_pos ⟨rfl, hrest⟩, List.take_left, List.drop_left,
    ofNat_unle_le rfl]

/-- R54: the same of a V2 frame, whatever its marker. -/
theorem decodeFrameV2_bytes {f : WireV2} (h : f.payload.length ≤ 255) : decodeFrameV2 f.bytes = .ok (.frameV2 f) := by
  have hrest : (f.payload ++ le 2 f.cksum.toNat).length = f.payload.length + 2 := by
    rw [List.length_append, le_length]
  obtain ⟨id0, id1, id2, hbytes⟩ : ∃ id0 id1 id2, le 3 f.msgid.toNat = [id0, id1, id2] := ⟨_, _, _, rfl⟩
  have hid : BitVec.ofNat 24 (unle [id0, id1, id2]) = f.msgid := hbytes ▸ ofNat_unle_le rfl f.msgid
  have hframe : f.bytes = f.marker :: BitVec.ofNat 8 f.payload.length :: f.incompatFlags :: f.compatFlags :: f.seq ::
      f.sysid :: f.compid :: id0 :: id1 :: id2 :: (f.payload ++ le 2 f.cksum.toNat) := by
    rw [WireV2.bytes, hbytes]
    rfl
  rw [hframe, decodeFrameV2, toNat_lengthByte h, if_pos hrest, List.take_left, List.drop_left, hid,
    ofNat_unle_le rfl]

/-- R53: what decodes as a V1 frame is that frame's bytes. -/
theorem bytes_of_decodeFrameV1 {bytes : List Byte} {i : Instr} (h : decodeFrameV1 bytes = .ok i) :
    ∃ f : WireV1, i = .frameV1 f ∧ f.bytes = bytes := by
  unfold decodeFrameV1 at h
  split at h
  · rename_i marker plen seq sysid compid msgid rest
    split at h
    · rename_i hguard
      obtain ⟨rfl, hrest⟩ := hguard
      refine ⟨_, (Except.ok.inj h).symm, ?_⟩
      have hpay : (rest.take plen.toNat).length = plen.toNat := by rw [List.length_take]; omega
      have htrailer : (rest.drop plen.toNat).length = 2 := by rw [List.length_drop]; omega
      have hcksum : le 2 (BitVec.ofNat 16 (unle (rest.drop plen.toNat))).toNat = rest.drop plen.toNat :=
        le_ofNat_unle rfl htrailer
      simp only [WireV1.bytes, hpay, ofNat_eq_of_toNat_eq rfl, hcksum, List.cons_append, List.nil_append,
        List.take_append_drop]
    · cases h
  · cases h

theorem bytes_of_decodeFrameV2 {bytes : List Byte} {i : Instr} (h : decodeFrameV2 bytes = .ok i) :
    ∃ f : WireV2, i = .frameV2 f ∧ f.bytes = bytes := by
  unfold decodeFrameV2 at h
  split at h
  · rename_i marker plen incompat compat seq sysid compid id0 id1 id2 rest
    split at h
    · rename_i hrest
      refine ⟨_, (Except.ok.inj h).symm, ?_⟩
      have hpay : (rest.take plen.toNat).length = plen.toNat := by rw [List.length_take]; omega
      have htrailer : (rest.drop plen.toNat).length = 2 := by rw [List.length_drop]; omega
      have hid : le 3 (BitVec.ofNat 24 (unle [id0, id1, id2])).toNat = [id0, id1, id2] := le_ofNat_unle rfl rfl
      have hcksum : le 2 (BitVec.ofNat 16 (unle (rest.drop plen.toNat))).toNat = rest.drop plen.toNat :=
        le_ofNat_unle rfl htrailer
      simp only [WireV2.bytes, hpay, ofNat_eq_of_toNat_eq rfl, hid, hcksum, List.cons_append, List.nil_append,
        List.take_append_drop]
    · cases h
  · cases h

/-- R62, R63: what decodes at a code, beside operands, is encoded as that code and those operands, but at a code of R64,
whose operands are not looked at. Grouped by the shape of the operands. -/
theorem encode_of_decodeOp {op : Byte} {args : List Operand} {i : Instr} (h : decodeOp op args = .ok i) :
    encode i = .op op args ∨ i = .reserved op := by
  have hcode {n : Nat} (hop : op.toNat = n) (args' : List Operand) :
      Request.op (BitVec.ofNat 8 n) args' = .op op args' := by rw [ofNat_eq_of_toNat_eq hop]
  unfold decodeOp at h
  split at h
  case h_1 hop | h_5 hop | h_42 hop =>
    obtain ⟨rfl, rfl⟩ := takeNone_eq_ok.mp h
    exact .inl (hcode hop _)
  case h_2 hop | h_4 hop | h_6 hop | h_7 hop | h_16 hop =>
    obtain ⟨b, rfl, rfl⟩ := takeByte_eq_ok.mp h
    exact .inl (hcode hop _)
  case h_8 hop | h_9 hop =>
    obtain ⟨v, rfl, rfl⟩ := takeWord16_eq_ok.mp h
    exact .inl (hcode hop _)
  case h_10 hop | h_11 hop | h_14 hop =>
    obtain ⟨v, rfl, rfl⟩ := takeWord32_eq_ok.mp h
    exact .inl (hcode hop _)
  case h_12 hop | h_13 hop | h_15 hop =>
    obtain ⟨v, rfl, rfl⟩ := takeWord64_eq_ok.mp h
    exact .inl (hcode hop _)
  case h_37 hop =>
    obtain ⟨n, rfl, rfl⟩ := takeNat_eq_ok.mp h
    exact .inl (hcode hop _)
  case h_3 hop | h_32 hop | h_33 hop | h_35 hop | h_40 hop | h_41 hop =>
    obtain ⟨S, rfl, rfl⟩ := takeBytes_eq_ok.mp h
    exact .inl (hcode hop _)
  case h_18 hop | h_19 hop | h_20 hop | h_21 hop | h_22 hop | h_23 hop | h_24 hop | h_25 hop | h_26 hop | h_27 hop
      | h_28 hop | h_38 hop =>
    obtain ⟨S, n, rfl, rfl⟩ := takeBytesNat_eq_ok.mp h
    exact .inl (hcode hop _)
  case h_17 hop =>
    obtain ⟨L, V, rfl, rfl⟩ := takeLayoutValues_eq_ok.mp h
    exact .inl (hcode hop _)
  case h_29 hop =>
    obtain ⟨L, S, rfl, rfl⟩ := takeLayoutBytes_eq_ok.mp h
    exact .inl (hcode hop _)
  case h_30 hop | h_31 hop =>
    obtain ⟨hd, rfl, rfl⟩ := takeHeader_eq_ok.mp h
    exact .inl (hcode hop _)
  case h_34 hop | h_36 hop =>
    obtain ⟨d, V, rfl, rfl⟩ := takeDescriptorValues_eq_ok.mp h
    exact .inl (hcode hop _)
  case h_39 hop =>
    obtain ⟨d, T, rfl, rfl⟩ := takeDescriptorFlat_eq_ok.mp h
    exact .inl (hcode hop _)
  case h_43 => exact .inr (Except.ok.inj h).symm

/-- Settles O50: the operations by computation, the wire formats and the reserved codes by their laws. -/
theorem decodeUndoesEncode : Obligations.DecodeUndoesEncode := by
  intro i hwf
  cases i with
  | frameV1 f => exact decodeFrameV1_bytes (of_decide_eq_true hwf)
  | frameV2 f => exact decodeFrameV2_bytes (of_decide_eq_true hwf)
  | reserved op => exact decodeOp_of_isReservedCode hwf []
  | _ => rfl

/-- Settles O51: each of the three kinds of request by what its decoder reads. -/
theorem decodedRequestsAreTheirEncodings : Obligations.DecodedRequestsAreTheirEncodings := by
  intro r i h
  match r with
  | .op op args =>
    refine (encode_of_decodeOp h).imp_right fun hi => ?_
    subst hi
    obtain ⟨hreserved, -⟩ := decodeOp_eq_reserved_iff.mp h
    exact ⟨op, args, rfl, rfl, hreserved⟩
  | .frame .v1 bytes =>
    obtain ⟨f, rfl, hbytes⟩ := bytes_of_decodeFrameV1 h
    exact .inl (congrArg (Request.frame .v1) hbytes)
  | .frame .v2 bytes =>
    obtain ⟨f, rfl, hbytes⟩ := bytes_of_decodeFrameV2 h
    exact .inl (congrArg (Request.frame .v2) hbytes)

/-- Settles O49: each decoding runs to its instruction. -/
theorem printedCodesDecodeToTheirOperations : Obligations.PrintedCodesDecodeToTheirOperations :=
  ⟨rfl, rfl, rfl, rfl, rfl, rfl, rfl, rfl⟩

end Sys2Proof
end

section
/-! PROOFS. FEED's loop as a relation (45_stream_parser.md R126 to R134): the segments a pass can cut off the head of
RXBUF, the buffers at which it waits, and the run from a state through all its passes. The laws of FEED are inductions
over it. -/

namespace Sys2Proof

namespace Machine

/-- R129, R130: RXBUF holds no byte, the marker alone, or less than the frame whose length byte it holds. -/
def Waiting (c : Config) (B : List Byte) : Prop :=
  B = [] ∨ B = [c.marker] ∨ ∃ plen rest, B = c.marker :: plen :: rest ∧ B.length < plen.toNat + c.hs + 2

/-- R131: the result of one whole candidate. -/
def candidateItem (c : Config) (cand : List Byte) : Item :=
  match decodeFrame c cand with
  | .ok m => .message m
  | .error e => .event { bytes := cand, reason := e }

/-- R128, R131: the bytes one pass cuts off, with the result it gives them: a byte that is not the marker, or a
candidate of the length its length byte asks for. -/
inductive Segment (c : Config) : List Byte → Item → Prop
  | garbage {b : Byte} (hb : b ≠ c.marker) : Segment c [b] (.event { bytes := [b], reason := .badPrefix })
  | candidate {plen : Byte} {body : List Byte} (hlen : (c.marker :: plen :: body).length = plen.toNat + c.hs + 2) :
      Segment c (c.marker :: plen :: body) (candidateItem c (c.marker :: plen :: body))

/-- R128, R130: RXBUF cut down to its rest, `EXPECTED_LEN <- HS`. -/
def State.cutTo (rest : List Byte) (s : State) : State := { s with rxbuf := rest, expectedLen := s.cfg.hs }

/-- R128, R131: the counter of a result. -/
def State.count (item : Item) (s : State) : State :=
  match item with
  | .message _ => s.countPacket
  | .event _ => s.countError

section
variable (s : State) (rest : List Byte) (item : Item)

@[simp] theorem State.cutTo_rxbuf : (s.cutTo rest).rxbuf = rest := rfl
@[simp] theorem State.cutTo_expectedLen : (s.cutTo rest).expectedLen = s.cfg.hs := rfl
@[simp] theorem State.cutTo_cfg : (s.cutTo rest).cfg = s.cfg := rfl

@[simp] theorem State.count_rxbuf : (s.count item).rxbuf = s.rxbuf := by cases item <;> rfl
@[simp] theorem State.count_expectedLen : (s.count item).expectedLen = s.expectedLen := by cases item <;> rfl
@[simp] theorem State.count_cfg : (s.count item).cfg = s.cfg := by cases item <;> rfl

/-- R128: the byte removed by the resync check is cut off and counted like any malformed segment. -/
theorem State.dropHead_eq_cutTo : s.dropHead = (s.cutTo (s.rxbuf.drop 1)).countError := rfl

end

section
variable {c : Config} {B seg : List Byte} {item : Item}

/-- R128 to R130: the buffer begins with a segment, or the pass waits. -/
theorem segment_or_waiting (c : Config) (B : List Byte) :
    (∃ seg item rest, Segment c seg item ∧ B = seg ++ rest) ∨ Waiting c B := by
  match B with
  | [] => exact .inr (.inl rfl)
  | b :: tail =>
    by_cases hb : b = c.marker
    · subst hb
      match tail with
      | [] => exact .inr (.inr (.inl rfl))
      | plen :: body =>
        by_cases hlen : (c.marker :: plen :: body).length < plen.toNat + c.hs + 2
        · exact .inr (.inr (.inr ⟨plen, body, rfl, hlen⟩))
        · refine .inl ⟨_, _, body.drop (plen.toNat + c.hs), .candidate (plen := plen)
            (body := body.take (plen.toNat + c.hs)) ?_, ?_⟩
          · simp only [List.length_cons, List.length_take] at hlen ⊢
            omega
          · rw [List.cons_append, List.cons_append, List.take_append_drop]
    · exact .inl ⟨_, _, tail, .garbage hb, rfl⟩

theorem Segment.length_pos (h : Segment c seg item) : 0 < seg.length := by
  cases h <;> exact Nat.succ_pos _

/-- R138: what a segment's result accounts for is the segment. -/
theorem Segment.accountsFor (h : Segment c seg item) : AccountsFor c item seg := by
  cases h with
  | garbage hb => rfl
  | candidate hlen =>
    unfold candidateItem
    split
    · assumption
    · rfl

end

section
variable {s t : State} {seg rest : List Byte} {item : Item}

/-- R128 to R131: a segment at the head of RXBUF is cut off and counted, and the loop goes on. -/
theorem feedPass_segment (hseg : Segment s.cfg seg item) (hbuf : s.rxbuf = seg ++ rest) :
    feedPass s = .again ((s.cutTo rest).count item) item := by
  cases hseg with
  | @garbage b hb =>
    have hbyte : resyncByte s = some b := resyncByte_some.mpr ⟨rest, hbuf, hb⟩
    rw [feedPass, hbyte, State.dropHead_eq_cutTo, hbuf]
    rfl
  | @candidate plen body hlen =>
    have hpass : feedPass s = decodePass (s.cutTo rest) (s.cfg.marker :: plen :: body) := feedPass_candidate hbuf hlen
    rw [hpass, candidateItem]
    cases hdec : decodeFrame s.cfg (s.cfg.marker :: plen :: body) with
    | ok m => exact decodePass_ok hdec
    | error e => exact decodePass_error hdec

/-- R129, R130: at a buffer that waits the loop stops, and only EXPECTED_LEN may have been written. -/
theorem feedPass_waiting (h : Waiting s.cfg s.rxbuf) : feedPass s = .stop (discoverLength s) := by
  have hmarker : resyncByte s = none := by
    rw [resyncByte_none]
    rcases h with hbuf | hbuf | ⟨plen, rest, hbuf, -⟩ <;> simp [hbuf]
  have hready : ¬ frameReady (discoverLength s) = true := by
    rw [frameReady_iff, discoverLength_cfg, discoverLength_rxbuf]
    rcases h with hbuf | hbuf | ⟨plen, rest, hbuf, hlen⟩
    · simp only [hbuf, List.length_nil]
      omega
    · simp only [hbuf, List.length_singleton]
      omega
    · rw [discoverLength_two hbuf, State.setExpected_expectedLen]
      omega
  rw [feedPass, hmarker]
  exact if_neg hready

end

/-- R126 to R132: the passes from `s` on, their results, and the state in which the loop stops. -/
inductive Feeds : State → List Item → State → Prop
  | stop {s : State} (hwait : Waiting s.cfg s.rxbuf) : Feeds s [] (discoverLength s)
  | again {s u : State} {seg rest : List Byte} {item : Item} {out : List Item} (hseg : Segment s.cfg seg item)
      (hbuf : s.rxbuf = seg ++ rest) (hrest : Feeds ((s.cutTo rest).count item) out u) : Feeds s (item :: out) u

/-- R134: a bound above the number of buffered bytes is enough for all passes. -/
theorem Feeds.feedLoop_eq {s u : State} {out : List Item} (h : Feeds s out u) {fuel : Nat}
    (hfuel : s.rxbuf.length < fuel) : feedLoop fuel s = (u, out) := by
  induction h generalizing fuel with
  | stop hwait =>
    obtain ⟨n, rfl⟩ := Nat.exists_eq_add_one_of_ne_zero (Nat.ne_zero_of_lt hfuel)
    exact feedLoop_stop n (feedPass_waiting hwait)
  | @again s u seg rest item out hseg hbuf hrest ih =>
    obtain ⟨n, rfl⟩ := Nat.exists_eq_add_one_of_ne_zero (Nat.ne_zero_of_lt hfuel)
    have hpos := hseg.length_pos
    have hlen : seg.length + rest.length < n + 1 := by rwa [hbuf, List.length_append] at hfuel
    rw [feedLoop_again n (feedPass_segment hseg hbuf), ih (by rw [State.count_rxbuf, State.cutTo_rxbuf]; omega)]

/-- R134: from every state the loop runs until it stops, by induction over the bytes in RXBUF. -/
theorem exists_feeds (s : State) : ∃ out u, Feeds s out u := by
  induction hn : s.rxbuf.length using Nat.strong_induction_on generalizing s with
  | _ n ih =>
    rcases segment_or_waiting s.cfg s.rxbuf with ⟨seg, item, rest, hseg, hbuf⟩ | hwait
    · have hpos := hseg.length_pos
      have hlen : rest.length < n := by rw [← hn, hbuf, List.length_append]; omega
      obtain ⟨out, u, hrest⟩ := ih _ hlen ((s.cutTo rest).count item) (by rw [State.count_rxbuf, State.cutTo_rxbuf])
      exact ⟨item :: out, u, .again hseg hbuf hrest⟩
    · exact ⟨[], _, .stop hwait⟩

/-- R126: FEED is the run from the state that has received the chunk. -/
theorem feedChunk_eq_iff {s u : State} {chunk : List Byte} {out : List Item} :
    feedChunk s chunk = (u, out) ↔ Feeds (s.receive chunk) out u := by
  have hrun {out' : List Item} {u' : State} (h : Feeds (s.receive chunk) out' u') : feedChunk s chunk = (u', out') :=
    h.feedLoop_eq (Nat.lt_succ_self _)
  refine ⟨fun h => ?_, hrun⟩
  obtain ⟨out', u', h'⟩ := exists_feeds (s.receive chunk)
  obtain ⟨rfl, rfl⟩ := Prod.mk.inj ((hrun h').symm.trans h)
  exact h'

theorem feedChunk_feeds (s : State) (chunk : List Byte) :
    Feeds (s.receive chunk) (feedChunk s chunk).2 (feedChunk s chunk).1 :=
  feedChunk_eq_iff.mp rfl

section
variable {s t u : State} {chunk : List Byte} {out : List Item}

/-- R126, R146: over a well-formed REGISTRY the operation ends where the run does, with its results as the response. -/
theorem exec_feed_of_feeds (hwf : s.cfg.WellFormed) (h : Feeds (s.receive chunk) out u) :
    exec (.feed chunk) s = .next (u.respond (.items out)) := by
  rw [exec_feed_of_wf hwf, State.fed, feedChunk_eq_iff.mpr h]

theorem feeds_of_exec_feed (h : exec (.feed chunk) s = .next t) (hout : t.response = some (.items out)) :
    ∃ u, Feeds (s.receive chunk) out u ∧ t = u.respond (.items out) := by
  obtain ⟨-, rfl⟩ := runFeed_eq_next h
  obtain rfl : (feedChunk s chunk).2 = out := Response.items.inj (Option.some.inj hout)
  exact ⟨_, feedChunk_feeds s chunk, rfl⟩

end

end Machine

end Sys2Proof
end

section
/-! PROOFS. The laws of FEED (45_stream_parser.md R128 to R138), by induction over its passes: where it waits, what it
counts, that its bound is enough, the byte law, fragmentation, and resynchronisation. -/

namespace Sys2Proof

namespace Machine

section
variable {s : State}

/-- R129: length discovery a second time writes what it wrote. -/
theorem discoverLength_idem (s : State) : discoverLength (discoverLength s) = discoverLength s := by
  match hbuf : s.rxbuf with
  | [] | [_] =>
    have hshort : s.rxbuf.length < 2 := by simp [hbuf]
    rw [discoverLength_short hshort, discoverLength_short hshort]
  | b :: plen :: rest =>
    rw [discoverLength_two hbuf, discoverLength_two (s := s.setExpected (plen.toNat + s.cfg.hs + 2)) hbuf]
    rfl

/-- R130: where FEED of nothing waits, only EXPECTED_LEN may change. -/
theorem exec_feed_nil_waiting (hwf : s.cfg.WellFormed) (hwait : Waiting s.cfg s.rxbuf) :
    exec (.feed []) s = .next ((discoverLength s).respond (.items [])) :=
  exec_feed_of_feeds hwf ((State.receive_nil s).symm ▸ .stop hwait)

/-- R8: a buffer that waits holds less than the longest frame. -/
theorem Waiting.length_lt {c : Config} {B : List Byte} (h : Waiting c B) : B.length < c.maxFrame := by
  rw [Config.maxFrame_eq]
  rcases h with rfl | rfl | ⟨plen, rest, -, hlen⟩
  · exact Nat.succ_pos _
  · rw [List.length_singleton]
    omega
  · have hbyte := plen.isLt
    omega

/-- R135: the parser is at rest where the loop waits and EXPECTED_LEN is what length discovery would write. -/
theorem parserAtRest_iff :
    s.ParserAtRest ↔
      Waiting s.cfg s.rxbuf ∧ (s.rxbuf.length < 2 → s.expectedLen = s.cfg.hs) ∧ discoverLength s = s := by
  constructor
  · rintro ⟨hhead, hshort, hlong⟩
    match hbuf : s.rxbuf with
    | [] => exact ⟨.inl rfl, hbuf ▸ hshort, discoverLength_short (by simp [hbuf])⟩
    | [b] =>
      obtain rfl : b = s.cfg.marker := by simpa [hbuf] using hhead
      exact ⟨.inr (.inl rfl), hbuf ▸ hshort, discoverLength_short (by simp [hbuf])⟩
    | b :: plen :: rest =>
      obtain rfl : b = s.cfg.marker := by simpa [hbuf] using hhead
      obtain ⟨hexpected, hlen⟩ := hlong plen (by rw [hbuf]; rfl)
      rw [hexpected, hbuf] at hlen
      refine ⟨.inr (.inr ⟨plen, rest, rfl, hlen⟩), hbuf ▸ hshort, ?_⟩
      rw [discoverLength_two hbuf, ← hexpected]
      rfl
  · rintro ⟨hwait, hshort, hfixed⟩
    refine ⟨?_, hshort, fun plen hplen => ?_⟩
    · rcases hwait with hbuf | hbuf | ⟨plen, rest, hbuf, -⟩ <;> simp [hbuf]
    · rcases hwait with hbuf | hbuf | ⟨plen', rest, hbuf, hlen⟩
      · simp [hbuf] at hplen
      · simp [hbuf] at hplen
      · obtain rfl : plen' = plen := by simpa [hbuf] using hplen
        rw [discoverLength_two hbuf] at hfixed
        have hexpected : s.expectedLen = plen'.toNat + s.cfg.hs + 2 := (congrArg State.expectedLen hfixed).symm
        exact ⟨hexpected, hexpected ▸ hlen⟩

end

section
variable (out : List Item)

@[simp] theorem messagesIn_cons_message (m : Message) : messagesIn (.message m :: out) = messagesIn out + 1 :=
  List.countP_cons_of_pos rfl

@[simp] theorem messagesIn_cons_event (e : Event) : messagesIn (.event e :: out) = messagesIn out :=
  List.countP_cons_of_neg Bool.false_ne_true

@[simp] theorem eventsIn_cons_message (m : Message) : eventsIn (.message m :: out) = eventsIn out :=
  List.countP_cons_of_neg Bool.false_ne_true

@[simp] theorem eventsIn_cons_event (e : Event) : eventsIn (.event e :: out) = eventsIn out + 1 :=
  List.countP_cons_of_pos rfl

end

namespace Feeds

variable {s u : State} {out : List Item}

/-- R134: the loop has stopped: the buffer it leaves waits. -/
theorem waiting (h : Feeds s out u) : Waiting u.cfg u.rxbuf := by
  induction h with
  | stop hwait => rwa [discoverLength_cfg, discoverLength_rxbuf]
  | again hseg hbuf hrest ih => exact ih

/-- R135: from an EXPECTED_LEN that is HS over a short buffer, the loop ends with the parser at rest. -/
theorem parserAtRest (h : Feeds s out u) (hshort : s.rxbuf.length < 2 → s.expectedLen = s.cfg.hs) :
    u.ParserAtRest := by
  induction h with
  | @stop s hwait =>
    rw [parserAtRest_iff, discoverLength_cfg, discoverLength_rxbuf]
    refine ⟨hwait, fun hlen => ?_, discoverLength_idem s⟩
    rw [discoverLength_short hlen]
    exact hshort hlen
  | again hseg hbuf hrest ih =>
    exact ih fun _ => by rw [State.count_expectedLen, State.count_cfg, State.cutTo_expectedLen, State.cutTo_cfg]

/-- R138: the counters grow by the results, and besides them only RXBUF and EXPECTED_LEN are written. -/
theorem exists_eq (h : Feeds s out u) :
    ∃ rx el, u = { s with
      rxbuf := rx
      expectedLen := el
      pktsRcvd := s.pktsRcvd + messagesIn out
      rxErrors := s.rxErrors + eventsIn out } := by
  induction h with
  | @stop s hwait =>
    refine ⟨s.rxbuf, (discoverLength s).expectedLen, ?_⟩
    unfold discoverLength
    split <;> rfl
  | @again s u seg rest item out hseg hbuf hrest ih =>
    obtain ⟨rx, el, rfl⟩ := ih
    refine ⟨rx, el, ?_⟩
    cases item with
    | message m =>
      have hcount : s.pktsRcvd + (messagesIn out + 1) = s.pktsRcvd + 1 + messagesIn out := by omega
      rw [messagesIn_cons_message, eventsIn_cons_message, hcount]
      rfl
    | event e =>
      have hcount : s.rxErrors + (eventsIn out + 1) = s.rxErrors + 1 + eventsIn out := by omega
      rw [messagesIn_cons_event, eventsIn_cons_event, hcount]
      rfl

/-- R138: the byte law: each result's segment in order, then what stays in RXBUF. -/
theorem exists_segments (h : Feeds s out u) :
    ∃ segs : List (List Byte), s.rxbuf = segs.flatten ++ u.rxbuf ∧ List.Forall₂ (AccountsFor s.cfg) out segs := by
  induction h with
  | @stop s hwait => exact ⟨[], (discoverLength_rxbuf s).symm, .nil⟩
  | @again s u seg rest item out hseg hbuf hrest ih =>
    rw [State.count_rxbuf, State.count_cfg, State.cutTo_rxbuf, State.cutTo_cfg] at ih
    obtain ⟨segs, hrest, haccounts⟩ := ih
    refine ⟨seg :: segs, ?_, .cons hseg.accountsFor haccounts⟩
    rw [hbuf, hrest, List.flatten_cons, List.append_assoc]

/-- R128, R131: every result is that of a segment. -/
theorem exists_segment (h : Feeds s out u) : ∀ item ∈ out, ∃ seg, Segment s.cfg seg item := by
  induction h with
  | stop hwait => exact fun item hmem => absurd hmem (List.not_mem_nil)
  | again hseg hbuf hrest ih =>
    rw [State.count_cfg, State.cutTo_cfg] at ih
    exact List.forall_mem_cons.mpr ⟨⟨_, hseg⟩, ih⟩

/-- R129: a run depends on the EXPECTED_LEN it begins with only where length discovery leaves it. -/
theorem congr {s' : State} (h : Feeds s out u) (hcut : ∀ rest, s'.cutTo rest = s.cutTo rest)
    (hlength : discoverLength s' = discoverLength s) (hcfg : s'.cfg = s.cfg) (hbuf' : s'.rxbuf = s.rxbuf) :
    Feeds s' out u := by
  cases h with
  | stop hwait =>
    rw [← hlength]
    exact .stop (by rwa [hcfg, hbuf'])
  | again hseg hbuf hrest =>
    rw [← hcut] at hrest
    exact .again (by rwa [hcfg]) (hbuf'.trans hbuf) hrest

/-- R129: length discovery before more bytes arrive writes nothing that it would not write after. -/
theorem of_discoverLength {chunk : List Byte} (h : Feeds ((discoverLength s).receive chunk) out u) :
    Feeds (s.receive chunk) out u := by
  match hbuf : s.rxbuf with
  | [] | [_] => rwa [discoverLength_short (by simp [hbuf])] at h
  | b :: plen :: rest =>
    rw [discoverLength_two hbuf] at h
    have hmore : (s.receive chunk).rxbuf = b :: plen :: (rest ++ chunk) := by
      rw [State.receive_rxbuf, hbuf, List.cons_append, List.cons_append]
    refine h.congr (fun rest => rfl) ?_ rfl rfl
    rw [discoverLength_two hmore,
      discoverLength_two (s := (s.setExpected (plen.toNat + s.cfg.hs + 2)).receive chunk) hmore]
    rfl

/-- R136: a run, then the bytes that arrive, then the run from there, is one run with the bytes there from the start. -/
theorem append {v : State} {chunk : List Byte} {out' : List Item} (h : Feeds s out u)
    (h' : Feeds (u.receive chunk) out' v) : Feeds (s.receive chunk) (out ++ out') v := by
  induction h with
  | stop hwait => exact h'.of_discoverLength
  | @again s u seg rest item out hseg hbuf hrest ih =>
    refine .again (rest := rest ++ chunk) hseg ?_ ?_
    · rw [State.receive_rxbuf, hbuf, List.append_assoc]
    · have hcomm :
          ((s.receive chunk).cutTo (rest ++ chunk)).count item = ((s.cutTo rest).count item).receive chunk := by
        cases item <;> rfl
      rw [hcomm]
      exact ih h'

end Feeds

/-- R127: chunks received one after the other stand in RXBUF as one. -/
theorem State.receive_append (s : State) (a b : List Byte) : s.receive (a ++ b) = (s.receive a).receive b := by
  simp only [State.receive, List.append_assoc, List.length_append, Nat.add_assoc]

/-- R136: two chunks are fed as their concatenation. -/
theorem feedChunk_append (s : State) (a b : List Byte) :
    feedChunk s (a ++ b) =
      ((feedChunk (feedChunk s a).1 b).1, (feedChunk s a).2 ++ (feedChunk (feedChunk s a).1 b).2) := by
  rw [feedChunk_eq_iff, State.receive_append]
  exact (feedChunk_feeds s a).append (feedChunk_feeds _ b)

/-- R136: by induction over the chunks after the first. -/
theorem feedAll_cons (s : State) (chunk : List Byte) (rest : List (List Byte)) :
    feedAll s (chunk :: rest) = feedChunk s (chunk ++ rest.flatten) := by
  induction rest generalizing s chunk with
  | nil => rw [feedAll, feedAll, List.append_nil, List.flatten_nil, List.append_nil]
  | cons next rest ih => rw [feedAll, ih, List.flatten_cons, feedChunk_append s chunk]

section
variable {c : Config} {C : List Byte} {m : Message} {e : Err}

/-- R130: what decodes is a candidate as FEED cuts it. -/
theorem segment_of_decodeFrame (h : decodeFrame c C = .ok m) : Segment c C (.message m) := by
  obtain ⟨hd, d, hhd, hmarker, hplen, -⟩ := decodeFrame_ok h
  have hlen : c.hs ≤ C.length := by
    by_contra hshort
    rw [hdrUnpack_short (not_le.mp hshort)] at hhd
    cases hhd
  obtain ⟨hd', hhd', hm, hp⟩ := hdrUnpack_ok hlen
  obtain rfl : hd = hd' := Except.ok.inj (hhd.symm.trans hhd')
  rw [hp] at hplen
  match C with
  | [] => simp at hplen; omega
  | [_] => simp at hplen; omega
  | b :: plen :: body =>
    obtain rfl : b = c.marker := hm.symm.trans hmarker
    have hlen' : (c.marker :: plen :: body).length = plen.toNat + c.hs + 2 := by
      simp only [List.getD_cons_succ, List.getD_cons_zero] at hplen
      omega
    have hitem : candidateItem c (c.marker :: plen :: body) = .message m := by rw [candidateItem, h]
    exact hitem ▸ .candidate hlen'

/-- R122 steps 5 to 9: of a registered id, decoding the values fails only in version 1, on too few bytes. -/
theorem decodeValues_fullPayload_error {v : Version} {d : Descriptor} {id : MsgId} {P : List Byte}
    (h : decodeValues d id (fullPayload v P d.wireLen) = .error e) : e = .truncatedPayload ∧ v = .v1 := by
  by_cases hlen : d.wireLen ≤ (fullPayload v P d.wireLen).length
  · obtain ⟨T, V, -, -, hok⟩ := decodeValues_ok id hlen
    cases hok.symm.trans h
  · rw [decodeValues_truncated id (not_le.mp hlen)] at h
    refine ⟨(Except.error.inj h).symm, ?_⟩
    cases v with
    | v1 => rfl
    | v2 => exact absurd (by rw [fullPayload, zpad_length]; exact le_max_right _ _) hlen

/-- R125: a candidate as FEED cuts it passes the length, marker and length-byte checks of FRAME.DEC. -/
theorem feedMayReport_candidate {plen : Byte} {body : List Byte}
    (hlen : (c.marker :: plen :: body).length = plen.toNat + c.hs + 2)
    (h : decodeFrame c (c.marker :: plen :: body) = .error e) :
    FeedMayReport c { bytes := c.marker :: plen :: body, reason := e } := by
  have hhs : c.hs ≤ (c.marker :: plen :: body).length := by omega
  have hplen : (byteAt (c.marker :: plen :: body) 1 : Int) = ((c.marker :: plen :: body).length : Int) - c.hs - 2 := by
    rw [hlen]
    simp only [byteAt, List.getD_cons_succ, List.getD_cons_zero]
    omega
  cases hlookup : c.lookup (candidateId c.version (c.marker :: plen :: body)) with
  | none =>
    rw [decodeFrame_unknownId hhs rfl hplen hlookup] at h
    obtain rfl := Except.error.inj h
    trivial
  | some d =>
    rw [decodeFrame_registered hhs rfl hplen hlookup] at h
    split at h
    · obtain rfl := Except.error.inj h
      trivial
    · obtain ⟨rfl, hv⟩ := decodeValues_fullPayload_error h
      exact hv

theorem Segment.feedMayReport {seg : List Byte} {e : Event} (h : Segment c seg (.event e)) : FeedMayReport c e := by
  generalize hitem : Item.event e = item at h
  cases h with
  | @garbage b hb =>
    obtain rfl := Item.event.inj hitem
    exact ⟨b, rfl, hb⟩
  | candidate hlen =>
    unfold candidateItem at hitem
    split at hitem
    · cases hitem
    · obtain rfl := Item.event.inj hitem
      exact feedMayReport_candidate hlen ‹_›

end

/-- R137: bytes that are not the marker go one by one; then the frame is decoded and the buffer is empty. -/
theorem feeds_garbage_then_frame {s : State} {garbage C : List Byte} {m : Message} (hbuf : s.rxbuf = garbage ++ C)
    (hgarbage : ∀ b ∈ garbage, b ≠ s.cfg.marker) (hdecode : decodeFrame s.cfg C = .ok m) :
    Feeds s (garbage.map (fun b => Item.event { bytes := [b], reason := .badPrefix }) ++ [.message m])
      { s with
        rxbuf := []
        expectedLen := s.cfg.hs
        pktsRcvd := s.pktsRcvd + 1
        rxErrors := s.rxErrors + garbage.length } := by
  induction garbage generalizing s with
  | nil =>
    refine .again (rest := []) (segment_of_decodeFrame hdecode) (by rw [hbuf, List.nil_append, List.append_nil]) ?_
    have hempty : ((s.cutTo []).count (.message m)).rxbuf.length < 2 := Nat.zero_lt_two
    exact discoverLength_short hempty ▸ .stop (.inl rfl)
  | cons b garbage ih =>
    obtain ⟨hb, hgarbage⟩ := List.forall_mem_cons.mp hgarbage
    refine .again (rest := garbage ++ C) (.garbage hb) hbuf ?_
    have hrest := ih (s := (s.cutTo (garbage ++ C)).countError) rfl hgarbage hdecode
    have hcount : s.rxErrors + (b :: garbage).length = s.rxErrors + 1 + garbage.length := by
      rw [List.length_cons]
      omega
    rw [hcount]
    exact hrest

end Machine

open Machine

/-- Settles O35: the pass cuts the byte off, and FEED puts its event before the results of the rest. -/
theorem resyncDropsOneByteAtATime : Obligations.ResyncDropsOneByteAtATime := by
  intro s t b rest out hbuf hb hrest hout
  exact exec_feed_nil_again (feedPass_segment (.garbage hb) hbuf) hrest hout

/-- Settles O36: the three buffers at which the loop waits. -/
theorem feedWaitsForTheRestOfAFrame : Obligations.FeedWaitsForTheRestOfAFrame := by
  intro s hwf
  constructor
  · intro plen rest hbuf hlen
    rw [exec_feed_nil_waiting hwf (.inr (.inr ⟨plen, rest, hbuf, hlen⟩)), discoverLength_two hbuf]
    rfl
  · intro hbuf _
    have hshort : s.rxbuf.length < 2 := by rcases hbuf with hbuf | hbuf <;> simp [hbuf]
    rw [exec_feed_nil_waiting hwf (hbuf.imp_right .inl), discoverLength_short hshort]
    rfl

/-- Settles O38: at rest the loop waits, and length discovery has nothing to write. -/
theorem feedingNothingAtRestChangesNothing : Obligations.FeedingNothingAtRestChangesNothing := by
  rintro s ⟨hwf, hrest⟩
  obtain ⟨hwait, -, hfixed⟩ := parserAtRest_iff.mp hrest
  rw [Answers, exec_feed_nil_waiting hwf hwait, hfixed]
  rfl

/-- Settles O39: any bound above the buffer makes the same run, which ends where the loop waits. -/
theorem feedLoopEndsWithinItsBuffer : Obligations.FeedLoopEndsWithinItsBuffer := by
  intro s fuel hfuel
  obtain ⟨out, u, hfeeds⟩ := exists_feeds s
  rw [hfeeds.feedLoop_eq hfuel, hfeeds.feedLoop_eq (Nat.lt_succ_self _)]
  exact ⟨rfl, _, feedPass_waiting hfeeds.waiting⟩

/-- Settles O33: the run's counters, from the state that has received the chunk. -/
theorem feedCompletesAndCountsItsResults : Obligations.FeedCompletesAndCountsItsResults := by
  intro s chunk hwf
  obtain ⟨out, u, hfeeds⟩ := exists_feeds (s.receive chunk)
  have hexec := exec_feed_of_feeds hwf hfeeds
  obtain ⟨rx, el, rfl⟩ := hfeeds.exists_eq
  exact ⟨rx, el, out, hexec⟩

/-- Settles O41: the induction over the chunks; and the operation is `feedChunk` where the REGISTRY is well-formed. -/
theorem fragmentationDoesNotMatter : Obligations.FragmentationDoesNotMatter := by
  constructor
  · intro s chunks hne
    obtain ⟨chunk, rest, rfl⟩ := List.exists_cons_of_ne_nil hne
    rw [feedAll_cons, List.flatten_cons]
  · exact fun s chunk hwf => exec_feed_of_wf hwf chunk

/-- Settles O42: the byte law of the run. -/
theorem feedAccountsForEveryByte : Obligations.FeedAccountsForEveryByte := by
  intro s t chunk out h hout
  obtain ⟨u, hfeeds, rfl⟩ := feeds_of_exec_feed h hout
  exact hfeeds.exists_segments

/-- Settles O43: every result is a segment's, and a segment's event reports one of these. -/
theorem feedReportsOnlyTheseErrors : Obligations.FeedReportsOnlyTheseErrors := by
  intro s t chunk out h hout e he
  obtain ⟨u, hfeeds, rfl⟩ := feeds_of_exec_feed h hout
  obtain ⟨seg, hseg⟩ := hfeeds.exists_segment _ he
  exact hseg.feedMayReport

/-- Settles O44: the run over the garbage and the frame, from the state that has received both. -/
theorem garbageBeforeAFrameIsDropped : Obligations.GarbageBeforeAFrameIsDropped := by
  intro s garbage C m hempty hgarbage hdec
  have hdecode := decodeFrame_of_answers_message hdec
  obtain ⟨hwf, -⟩ := ite_refused_eq_next hdec
  have hbuf : (s.receive (garbage ++ C)).rxbuf = garbage ++ C := by
    rw [State.receive_rxbuf, hempty, List.nil_append]
  have hcount : s.bytesRcvd + garbage.length + C.length = s.bytesRcvd + (garbage ++ C).length := by
    rw [List.length_append]
    omega
  rw [exec_feed_of_feeds hwf (feeds_garbage_then_frame hbuf hgarbage hdecode), hcount, ← hempty]
  rfl

end Sys2Proof
end

section
/-! PROOFS. Every step keeps a session legal (45_stream_parser.md R135, 60_exceptions.md R146), from the reset on. -/

namespace Sys2Proof

namespace Machine

section
variable {s t : State}

/-- R135: the invariant reads the configuration, RXBUF and EXPECTED_LEN only. -/
theorem State.Legal.congr (h : s.Legal) (hcfg : t.cfg = s.cfg) (hbuf : t.rxbuf = s.rxbuf)
    (hexpected : t.expectedLen = s.expectedLen) : t.Legal := by
  obtain ⟨hwf, hhead, hshort, hlong⟩ := h
  rw [← hcfg, ← hbuf] at hhead
  rw [← hcfg, ← hbuf, ← hexpected] at hshort hlong
  exact ⟨hcfg ▸ hwf, hhead, hshort, hlong⟩

/-- R135 (d): at rest RXBUF holds less than the longest frame. -/
theorem State.Legal.rxbuf_length_lt (h : s.Legal) : s.rxbuf.length < s.cfg.maxFrame := by
  obtain ⟨-, hrest⟩ := h
  obtain ⟨hwait, -⟩ := parserAtRest_iff.mp hrest
  exact hwait.length_lt

/-- R135: FEED leaves the parser at rest; a short buffer afterwards was a short buffer before. -/
theorem State.Legal.fed (h : s.Legal) (chunk : List Byte) : (s.fed chunk).Legal := by
  obtain ⟨hwf, -, hshort, -⟩ := h
  have hcfg : (feedChunk s chunk).1.cfg = s.cfg := (feedChunk_sameButReceive s chunk).cfg
  have hrest : (feedChunk s chunk).1.ParserAtRest := by
    refine (feedChunk_feeds s chunk).parserAtRest fun hlen => hshort ?_
    rw [State.receive_rxbuf, List.length_append] at hlen
    omega
  exact ⟨hcfg ▸ hwf, hrest⟩

theorem Effect.legal {i : Instr} (h : Effect s i t) (hs : s.Legal) : t.Legal := by
  cases h with
  | answer | crcInit | crcByte | crcBuf | crcSalt | sent => exact hs.congr rfl rfl rfl
  | feed | frameV1 | frameV2 => exact hs.fed _

end

/-- R29, R31: no descriptor at all makes a well-formed REGISTRY. -/
theorem deployed_wellFormed : Config.deployed.WellFormed :=
  ⟨fun _ hmem => absurd hmem List.not_mem_nil, List.nodup_nil⟩

/-- R135, R153: a constructed session has an empty buffer and waits for a header. -/
theorem construct_legal {c : Config} (hwf : c.WellFormed) (sysid0 compid0 : Byte) :
    (State.construct c sysid0 compid0).Legal :=
  ⟨hwf, .inl rfl, fun _ => rfl, fun _ hplen => nomatch hplen⟩

end Machine

open Machine

/-- Settles O40: an idle step changes nothing, and what an operation can do keeps the invariant. -/
theorem stepKeepsSessionsLegal : Obligations.StepKeepsSessionsLegal := by
  intro s t hs hstep
  have ht : t.Legal := by
    obtain ⟨-, rfl⟩ | ⟨r, i, -, -, hexec⟩ := step_next hstep
    · exact hs
    · exact (exec_effect hexec).legal (hs.congr rfl rfl rfl)
  exact ⟨ht, ht.rxbuf_length_lt⟩

/-- Settles O3: construction over a well-formed configuration, of which the one at `State.reset` is an example. -/
theorem resetIsLegal : Obligations.ResetIsLegal :=
  ⟨fun _ sysid0 compid0 hwf => construct_legal hwf sysid0 compid0, construct_legal deployed_wellFormed 0 0⟩

end Sys2Proof
end

section
/-! PROOFS. The rules of the whole machine (10_state.md R20 to R28, R38; 20_memory.md R47; 60_exceptions.md R144 to
R146, R149), each from what an operation that completes can do. -/

namespace Sys2Proof

namespace Machine

/-- R62: the operation ends in a next state, with a response. -/
def Completes (o : Result) : Prop := ∃ t r, o = .next t ∧ t.response = some r

theorem completes_ret (r : Response) (s : State) : Completes (ret r s) := ⟨_, r, rfl, rfl⟩

theorem completes_deliver {α : Type} (x : Except Err α) (f : α → Response) (s : State) :
    Completes (deliver x f s) := by
  obtain ⟨r, hnext, -⟩ := deliver_next x f s
  exact ⟨_, r, hnext, rfl⟩

/-- R146: an operation with a premise completes, or refuses by name where the premise fails. -/
theorem completes_or_refused {p : Prop} [Decidable p] {o : Result} (ho : Completes o) (x : Refusal) :
    Completes (if p then o else .refused x) ∨ ¬p ∧ (if p then o else .refused x) = .refused x := by
  by_cases hp : p
  · exact .inl ((if_pos hp).symm ▸ ho)
  · exact .inr ⟨hp, if_neg hp⟩

/-- R144 to R146: every operation completes, but for an operand descriptor or a REGISTRY that is not well-formed. -/
theorem exec_completes_or_refused (i : Instr) (s : State) :
    Completes (exec i s) ∨ (i.wf = false ∧ exec i s = .refused .illFormedDescriptor) ∨
      (¬ s.cfg.WellFormed ∧ exec i s = .refused .illFormedRegistry) := by
  cases i with
  | reorderD2w | frameEnc | reorderW2d =>
    exact (completes_or_refused (completes_deliver ..) _).imp_right fun ⟨hwf, hrefused⟩ =>
      .inl ⟨decide_eq_false hwf, hrefused⟩
  | frameDec => exact (completes_or_refused (completes_deliver ..) _).imp_right .inr
  | feed | frameV1 | frameV2 => exact (completes_or_refused (completes_ret ..) _).imp_right .inr
  | unpackI8 | unpackU8 | unpackI16 | unpackU16 | unpackI32 | unpackU32 | unpackI64 | unpackU64 | unpackF32 | unpackF64
  | unpackChar | packLayout | unpackLayout | hdrPackV1 | hdrUnpackV1 | hdrUnpackV2 => exact .inl (completes_deliver ..)
  | crcInit | crcByte | crcBuf | crcSalt | crcRead | packI8 | packU8 | packI16 | packU16 | packI32 | packU32 | packI64
  | packU64 | packF32 | packF64 | packChar | hdrPackV2 | truncZ | sessionSent | zpad | statRead | reserved =>
    exact .inl (completes_ret ..)

section
variable {s t : State} {i : Instr}

theorem Effect.cfg_sysid_compid (h : Effect s i t) : t.cfg = s.cfg ∧ t.sysid = s.sysid ∧ t.compid = s.compid := by
  cases h with
  | answer | crcInit | crcByte | crcBuf | crcSalt | sent => exact ⟨rfl, rfl, rfl⟩
  | feed | frameV1 | frameV2 =>
    have hsame := SameSender.fed s
    exact ⟨(hsame _).cfg, (hsame _).sysid, (hsame _).compid⟩

/-- R144: the operations that write a register answer no error. -/
theorem Effect.eq_respond_of_error {e : Err} (h : Effect s i t) (he : t.response = some (.error e)) :
    t = s.respond (.error e) := by
  cases h with
  | answer i r =>
    obtain rfl : r = .error e := Option.some.inj he
    rfl
  | crcInit | crcByte | crcBuf | crcSalt | sent => cases Option.some.inj he
  | feed | frameV1 | frameV2 => cases Option.some.inj he

/-- R127, R138: FEED's counters only grow. -/
theorem fed_counters (s : State) (chunk : List Byte) :
    s.pktsRcvd ≤ (s.fed chunk).pktsRcvd ∧ s.bytesRcvd ≤ (s.fed chunk).bytesRcvd ∧
      s.rxErrors ≤ (s.fed chunk).rxErrors := by
  obtain ⟨rx, el, hfed⟩ := (feedChunk_feeds s chunk).exists_eq
  rw [State.fed, hfed]
  exact ⟨Nat.le_add_right .., Nat.le_add_right .., Nat.le_add_right ..⟩

theorem Effect.counters (h : Effect s i t) :
    s.pktsSent ≤ t.pktsSent ∧ s.bytesSent ≤ t.bytesSent ∧ s.pktsRcvd ≤ t.pktsRcvd ∧ s.bytesRcvd ≤ t.bytesRcvd ∧
      s.rxErrors ≤ t.rxErrors := by
  cases h with
  | answer | crcInit | crcByte | crcBuf | crcSalt => exact ⟨le_rfl, le_rfl, le_rfl, le_rfl, le_rfl⟩
  | sent n => exact ⟨Nat.le_add_right .., Nat.le_add_right .., le_rfl, le_rfl, le_rfl⟩
  | feed | frameV1 | frameV2 =>
    have hsame := feedChunk_sameButReceive s
    exact ⟨(hsame _).pktsSent.ge, (hsame _).bytesSent.ge, fed_counters s _⟩

/-- R21: who writes CRC. -/
theorem Effect.writer_of_crc (h : Effect s i t) (hne : t.crc ≠ s.crc) :
    i = .crcInit ∨ (∃ b, i = .crcByte b) ∨ (∃ S, i = .crcBuf S) ∨ ∃ b, i = .crcSalt b := by
  cases h with
  | crcInit => exact .inl rfl
  | crcByte b => exact .inr (.inl ⟨b, rfl⟩)
  | crcBuf S => exact .inr (.inr (.inl ⟨S, rfl⟩))
  | crcSalt salt => exact .inr (.inr (.inr ⟨salt, rfl⟩))
  | answer | sent => exact absurd rfl hne
  | feed | frameV1 | frameV2 => exact absurd (feedChunk_sameButReceive s _).crc hne

/-- R22, R27: who writes the send registers. -/
theorem Effect.writer_of_send (h : Effect s i t)
    (hne : t.seq ≠ s.seq ∨ t.pktsSent ≠ s.pktsSent ∨ t.bytesSent ≠ s.bytesSent) : ∃ n, i = .sessionSent n := by
  cases h with
  | sent n => exact ⟨n, rfl⟩
  | answer | crcInit | crcByte | crcBuf | crcSalt => rcases hne with hne | hne | hne <;> exact absurd rfl hne
  | feed | frameV1 | frameV2 =>
    have hsame := feedChunk_sameButReceive s
    rcases hne with hne | hne | hne
    · exact absurd (hsame _).seq hne
    · exact absurd (hsame _).pktsSent hne
    · exact absurd (hsame _).bytesSent hne

/-- R25 to R27: who writes the receive registers. -/
theorem Effect.writer_of_receive (h : Effect s i t)
    (hne : t.rxbuf ≠ s.rxbuf ∨ t.expectedLen ≠ s.expectedLen ∨ t.pktsRcvd ≠ s.pktsRcvd ∨ t.bytesRcvd ≠ s.bytesRcvd ∨
      t.rxErrors ≠ s.rxErrors) : (∃ chunk, i = .feed chunk) ∨ (∃ f, i = .frameV1 f) ∨ ∃ f, i = .frameV2 f := by
  cases h with
  | feed chunk => exact .inl ⟨chunk, rfl⟩
  | frameV1 f => exact .inr (.inl ⟨f, rfl⟩)
  | frameV2 f => exact .inr (.inr ⟨f, rfl⟩)
  | answer | crcInit | crcByte | crcBuf | crcSalt | sent =>
    rcases hne with hne | hne | hne | hne | hne <;> exact absurd rfl hne

end

/-- R38: a session's step has a next state exactly where its own state's step has one, which takes its place. -/
theorem stepSession_eq_next {k : Nat} {before after : List State} (h : stepSession k before = .next after) :
    ∃ s t, before[k]? = some s ∧ step s = .next t ∧ after = before.set k t := by
  unfold stepSession at h
  split at h
  · cases h
  · split at h
    · exact ⟨_, _, ‹_›, ‹_›, (Host.Outcome.next.inj h).symm⟩
    · cases h
    · cases h

/-- R53, R55: the bytes of a V1 frame, as the wire format lays them out. -/
theorem wireV1_bytes_eq (f : WireV1) :
    f.bytes = [0xFE, BitVec.ofNat 8 f.payload.length, f.seq, f.sysid, f.compid, f.msgid] ++ f.payload ++
      [f.cksum.extractLsb' 0 8, f.cksum.extractLsb' 8 8] :=
  congrArg (_ ++ ·) (le_toNat_eq_map_extractLsb' 2 f.cksum)

/-- R54, R55: the bytes of a V2 frame, as the wire format lays them out. -/
theorem wireV2_bytes_eq (f : WireV2) :
    f.bytes = [f.marker, BitVec.ofNat 8 f.payload.length, f.incompatFlags, f.compatFlags, f.seq, f.sysid, f.compid,
      f.msgid.extractLsb' 0 8, f.msgid.extractLsb' 8 8, f.msgid.extractLsb' 16 8] ++ f.payload ++
      [f.cksum.extractLsb' 0 8, f.cksum.extractLsb' 8 8] := by
  have hid : le 3 f.msgid.toNat = [f.msgid.extractLsb' 0 8, f.msgid.extractLsb' 8 8, f.msgid.extractLsb' 16 8] :=
    le_toNat_eq_map_extractLsb' 3 f.msgid
  have hcksum : le 2 f.cksum.toNat = [f.cksum.extractLsb' 0 8, f.cksum.extractLsb' 8 8] :=
    le_toNat_eq_map_extractLsb' 2 f.cksum
  rw [WireV2.bytes, hid, hcksum]
  rfl

/-- R47: the first request, and the state that waits behind it. -/
theorem nextRequest_of_requests {s : State} {r : Request} {rest : List Request} (h : s.requests = r :: rest) :
    s.nextRequest = some r ∧ s.dequeue = { s with requests := rest } := by
  rw [State.nextRequest, State.dequeue, h]
  exact ⟨rfl, rfl⟩

end Machine

open Machine

/-- Settles O46: the reception of a frame is FEED of its bytes, which completes. -/
theorem wireFramesArriveAsOneChunk : Obligations.WireFramesArriveAsOneChunk := by
  intro s hwf
  refine ⟨fun f => ⟨s.fed f.bytes, _, exec_feed_of_wf hwf f.bytes, rfl, ?_⟩,
    fun f => ⟨s.fed f.bytes, _, exec_feed_of_wf hwf f.bytes, rfl, ?_⟩⟩
  · rw [← wireV1_bytes_eq]
    exact exec_feed_of_wf hwf f.bytes
  · rw [← wireV2_bytes_eq]
    exact exec_feed_of_wf hwf f.bytes

/-- Settles O48: the three things a step can be, by what stands first in the queue. -/
theorem stepRunsTheDecodedRequest : Obligations.StepRunsTheDecodedRequest := by
  refine ⟨?decoded, ?idle, ?rejected⟩
  case decoded =>
    intro s r rest i hrequests hdecode
    obtain ⟨hnext, hrest⟩ := nextRequest_of_requests hrequests
    rw [step_decoded hnext hdecode, hrest]
  case idle =>
    intro s hrequests
    exact step_idle (congrArg List.head? hrequests)
  case rejected =>
    intro s r rest e hrequests hdecode
    obtain ⟨hnext, -⟩ := nextRequest_of_requests hrequests
    exact ⟨_, step_rejected hnext hdecode⟩

/-- Settles O52: the two refusals are the only ones, and their causes are what the premises exclude. -/
theorem everyInstructionCompletes : Obligations.EveryInstructionCompletes := by
  constructor
  · intro i s hi hwf
    obtain hcompletes | ⟨hill, -⟩ | ⟨hill, -⟩ := exec_completes_or_refused i s
    · exact hcompletes
    · cases hi.symm.trans hill
    · exact absurd hwf hill
  · intro i s x hx
    obtain ⟨t, r, hnext, -⟩ | ⟨hill, hrefused⟩ | ⟨hill, hrefused⟩ := exec_completes_or_refused i s
    · cases hx.symm.trans hnext
    · exact .inl ⟨Host.Outcome.refused.inj (hx.symm.trans hrefused), hill⟩
    · exact .inr ⟨Host.Outcome.refused.inj (hx.symm.trans hrefused), hill⟩

/-- Settles O53: only an operation that does nothing but answer can answer an error. -/
theorem errorsWriteNoState : Obligations.ErrorsWriteNoState :=
  fun _ _ _ _ hexec he => (exec_effect hexec).eq_respond_of_error he

/-- Settles O54: taking up a request, and what an operation can do, keep the three. -/
theorem configurationNeverChanges : Obligations.ConfigurationNeverChanges := by
  intro s t hstep
  obtain ⟨-, rfl⟩ | ⟨r, i, -, -, hexec⟩ := step_next hstep
  · exact ⟨rfl, rfl, rfl⟩
  · exact (exec_effect hexec).cfg_sysid_compid

/-- Settles O55: the writers of each group of registers, by what an operation can do. -/
theorem registersHaveOnlyTheirWriters : Obligations.RegistersHaveOnlyTheirWriters := by
  intro i s t hexec
  have heffect := exec_effect hexec
  exact ⟨heffect.writer_of_crc, heffect.writer_of_send, heffect.writer_of_receive⟩

/-- Settles O56: taking up a request writes no counter, and what an operation can do lets none fall. -/
theorem countersNeverDecrease : Obligations.CountersNeverDecrease := by
  intro s t hstep
  obtain ⟨-, rfl⟩ | ⟨r, i, -, -, hexec⟩ := step_next hstep
  · exact ⟨le_rfl, le_rfl, le_rfl, le_rfl, le_rfl⟩
  · exact (exec_effect hexec).counters

/-- Settles O57: the stepped session's state is replaced in its place. -/
theorem sessionsDoNotTouchEachOther : Obligations.SessionsDoNotTouchEachOther := by
  intro k before after h
  obtain ⟨s, t, hs, hstep, rfl⟩ := stepSession_eq_next h
  obtain ⟨hk, -⟩ := List.getElem?_eq_some_iff.mp hs
  exact ⟨List.length_set, fun j hj => List.getElem?_set_ne (Ne.symm hj), s, t, hs, hstep, List.getElem?_set_self hk⟩

end Sys2Proof
end

section
/-! PROOFS. The algebra of the checksum's byte step (40_checksum.md R67 to R72): it is linear, it is a shift and a step
of the zero state, and the printed table and the bitwise generator compute it. -/

namespace Sys2Proof

namespace Machine

/-- R67, R72: shifts, widenings and xors are all linear, so the step is. -/
theorem crcStep_xor (s1 s2 : Word16) (b1 b2 : Byte) :
    crcStep (s1 ^^^ s2) (b1 ^^^ b2) = crcStep s1 b1 ^^^ crcStep s2 b2 := by
  simp only [crcStep, BitVec.setWidth_xor, BitVec.shiftLeft_xor_distrib, BitVec.ushiftRight_xor_distrib]
  ac_rfl

/-- R70: a step is the high byte moved down, and a step of the zero state by the byte met by the low one. -/
theorem crcStep_eq_shift_xor (state : Word16) (b : Byte) :
    crcStep state b = (state >>> 8) ^^^ crcStep 0 (b ^^^ state.setWidth 8) := by
  simp [crcStep, BitVec.xor_assoc]

theorem crcTable_length : crcTable.length = 256 := by
  simp only [crcTable, List.length_append]
  rfl

/-- R70: entry by entry, the table prints the steps of the zero state. -/
theorem crcTable_getElem? : ∀ b : Byte, crcTable[b.toNat]? = some (crcStep 0 b) := by
  decide

/-- R70: the byte the table is entered with. -/
theorem tableIndex_eq (state : Word16) (b : Byte) :
    ((state ^^^ b.setWidth 16) &&& 0xFF).toNat = (b ^^^ state.setWidth 8).toNat := by
  have hmask : (0xFF : Word16).toNat = 0xFF := rfl
  simp only [BitVec.toNat_and, hmask, and_byteMask, BitVec.toNat_xor, BitVec.toNat_setWidth, Nat.xor_mod_two_pow]
  rw [Nat.xor_comm, Nat.mod_mod_of_dvd _ (by decide), b.toNat_mod_cancel]

/-- R70: only byte 0 takes the zero state to one whose high byte is 0. -/
theorem eq_zero_of_crcStep_zero_high : ∀ c : Byte, crcStep 0 c >>> 8 = 0 → c = 0 := by
  decide

/-- R72: the step takes nothing but zeros to zero: the high byte of the result determines the byte looked up, and then
the rest of it is the old state's high byte. -/
theorem crcStep_eq_zero {state : Word16} {b : Byte} (h : crcStep state b = 0) :
    state >>> 8 = 0 ∧ b = state.setWidth 8 := by
  rw [crcStep_eq_shift_xor] at h
  have hhigh : crcStep 0 (b ^^^ state.setWidth 8) >>> 8 = 0 := by
    have hgone : state >>> 8 >>> 8 = 0 := by
      rw [← BitVec.shiftRight_add]
      exact BitVec.ushiftRight_eq_zero (by decide)
    rw [← BitVec.xor_eq_zero_iff.mp h]
    exact hgone
  have hbyte := eq_zero_of_crcStep_zero_high _ hhigh
  rw [hbyte] at h
  exact ⟨BitVec.xor_zero.symm.trans h, BitVec.xor_eq_zero_iff.mp hbyte⟩

/-- R72: for each byte, different states step to different states. -/
theorem crcStep_state_injective (b : Byte) : Function.Injective fun state => crcStep state b := by
  intro s1 s2 h
  have hdiff : crcStep (s1 ^^^ s2) 0 = 0 := by
    have hxor := crcStep_xor s1 s2 b b
    rw [BitVec.xor_self] at hxor
    exact hxor.trans (BitVec.xor_eq_zero_iff.mpr h)
  obtain ⟨hhigh, hlow⟩ := crcStep_eq_zero hdiff
  have hzero : s1 ^^^ s2 = 0 := by bv_omega
  exact BitVec.xor_eq_zero_iff.mp hzero

/-- R72: in each state, different bytes step to different states. -/
theorem crcStep_byte_injective (state : Word16) : Function.Injective fun b => crcStep state b := by
  intro b1 b2 h
  have hdiff : crcStep 0 (b1 ^^^ b2) = 0 := by
    have hxor := crcStep_xor state state b1 b2
    rw [BitVec.xor_self] at hxor
    exact hxor.trans (BitVec.xor_eq_zero_iff.mpr h)
  obtain ⟨-, hbytes⟩ := crcStep_eq_zero hdiff
  exact BitVec.xor_eq_zero_iff.mp hbytes

/-- R71: the bit a round looks at. -/
theorem and_one_eq_one_iff (x : Word16) : x &&& 1 = 1 ↔ x.getLsbD 0 = true := by
  have hbit : x &&& 1 = (BitVec.ofBool (x.getLsbD 0)).setWidth 16 := BitVec.and_one_eq_setWidth_ofBool_getLsbD
  rw [hbit]
  cases x.getLsbD 0 <;> decide

/-- R71: one round of the bit-reflected generator. -/
theorem crcRounds_succ (p : Word16) (n : Nat) (x : Word16) :
    crcRounds p (n + 1) x = crcRounds p n (if x.getLsbD 0 = true then (x >>> 1) ^^^ p else x >>> 1) := by
  simp only [crcRounds, and_one_eq_one_iff]

/-- R71: the rounds are linear: the polynomial is added for one, for the other, or for both and drops out. -/
theorem crcRounds_xor (p : Word16) (n : Nat) (x y : Word16) :
    crcRounds p n (x ^^^ y) = crcRounds p n x ^^^ crcRounds p n y := by
  induction n generalizing x y with
  | zero => rfl
  | succ n ih =>
    rw [crcRounds_succ, crcRounds_succ, crcRounds_succ, ← ih, BitVec.getLsbD_xor, BitVec.ushiftRight_xor_distrib]
    congr 1
    have hboth : x >>> 1 ^^^ y >>> 1 = (x >>> 1 ^^^ p) ^^^ (y >>> 1 ^^^ p) := by
      rw [← BitVec.xor_zero (x := x >>> 1 ^^^ y >>> 1), ← BitVec.xor_self (x := p)]
      ac_rfl
    have hone : (x >>> 1 ^^^ y >>> 1) ^^^ p = (x >>> 1 ^^^ p) ^^^ y >>> 1 := by ac_rfl
    match x.getLsbD 0, y.getLsbD 0 with
    | false, false => rfl
    | false, true => exact BitVec.xor_assoc _ _ _
    | true, false => exact hone
    | true, true => exact hboth

/-- R71: rounds that meet only zero bits are shifts. -/
theorem crcRounds_of_low_zero (p : Word16) {n : Nat} {x : Word16} (h : ∀ i < n, x.getLsbD i = false) :
    crcRounds p n x = x >>> n := by
  induction n generalizing x with
  | zero => rfl
  | succ n ih =>
    have hrest : ∀ i < n, (x >>> 1).getLsbD i = false := fun i hi => by
      rw [BitVec.getLsbD_ushiftRight]
      exact h (1 + i) (by omega)
    rw [crcRounds_succ, h 0 n.succ_pos, if_neg Bool.false_ne_true, ih hrest, ← BitVec.shiftRight_add, Nat.add_comm]

/-- R71: eight rounds of a lone byte are the table's entry. -/
theorem crcRounds_byte : ∀ c : Byte, crcRounds 0x8408 8 (c.setWidth 16) = crcStep 0 c := by
  decide

/-- R71: the high byte of the state, and the low one met by the byte. -/
theorem xor_byte_eq_high_xor_low (state : Word16) (b : Byte) :
    state ^^^ b.setWidth 16 = (state >>> 8) <<< 8 ^^^ (b ^^^ state.setWidth 8).setWidth 16 := by
  ext i hi
  by_cases h8 : i < 8
  · simp [h8, BitVec.getLsbD_eq_getElem hi, Bool.xor_comm]
  · have hi' : 8 + (i - 8) = i := by omega
    simp [h8, hi', BitVec.getLsbD_eq_getElem hi]

end Machine

open Machine

/-- Settles O7: the table's entries and the bitwise rounds on bytes, extended to all states by linearity. -/
theorem tableAndBitwiseFormsAgree : Obligations.TableAndBitwiseFormsAgree := by
  refine ⟨crcTable_length, crcTable_getElem?, fun state b => ?table, fun state b => ?bitwise⟩
  case table =>
    rw [crcTableStep, tableIndex_eq, List.getD_eq_getElem?_getD, crcTable_getElem?, Option.getD_some,
      ← crcStep_eq_shift_xor]
  case bitwise =>
    have hlow : ∀ i < 8, ((state >>> 8) <<< 8).getLsbD i = false := fun i hi => by simp [hi]
    have hhigh : (state >>> 8) <<< 8 >>> 8 = state >>> 8 := by bv_omega
    rw [crcBitwise, xor_byte_eq_high_xor_low, crcRounds_xor, crcRounds_byte, crcRounds_of_low_zero _ hlow, hhigh,
      ← crcStep_eq_shift_xor]

/-- Settles O8: linearity, and the trivial kernel in the state and in the byte. -/
theorem crcStepIsLinearAndInjective : Obligations.CrcStepIsLinearAndInjective :=
  ⟨crcStep_xor, fun b => Finite.injective_iff_bijective.mp (crcStep_state_injective b), crcStep_byte_injective⟩

/-- R72: different states stay different over any bytes. -/
theorem Machine.crcFold_injective (S : List Byte) : Function.Injective fun state => crcFold state S := by
  induction S with
  | nil => exact fun _ _ h => h
  | cons b S ih => exact fun _ _ h => crcStep_state_injective b (ih h)

/-- R72: the changed byte makes the states differ, and no later byte makes them meet again. -/
theorem Machine.crcFold_ne_of_byte_ne (state : Word16) (before after : List Byte) {x y : Byte} (hxy : x ≠ y) :
    crcFold state (before ++ x :: after) ≠ crcFold state (before ++ y :: after) := by
  rw [crcFold_append, crcFold_append, crcFold_cons, crcFold_cons]
  exact fun h => hxy (crcStep_byte_injective _ (crcFold_injective after h))

/-- Settles O9: the two folds part at the changed byte. -/
theorem oneChangedByteAlwaysChangesTheCrc : Obligations.OneChangedByteAlwaysChangesTheCrc :=
  fun state before after _ _ hxy => crcFold_ne_of_byte_ne state before after hxy

end Sys2Proof
end

section
/-! PROOFS. The inverse laws of the codecs: layouts (41_scalar_codec.md R106), headers (42_header_codec.md R111),
truncation and padding, and the two reorderings (44_framer_decode.md R119, R120). -/

namespace Sys2Proof

/-- R78: a pattern is its width and its number. -/
theorem Pattern.eq_of_size_toNat {p q : Pattern} (hsize : p.size = q.size) (hnum : p.toNat = q.toNat) : p = q := by
  cases p <;> cases q <;> simp_all [Pattern.size, Pattern.toNat, BitVec.toNat_inj]

namespace Machine

theorem eq_of_packPattern_eq {p q : Pattern} (hsize : p.size = q.size) (hbytes : packPattern p = packPattern q) :
    p = q :=
  Pattern.eq_of_size_toNat hsize (by rw [← unle_packPattern, hbytes, unle_packPattern])

/-- R106: of given widths, a flat sequence is determined by its bytes. -/
theorem eq_of_flatMap_packPattern_eq {T T' : List Pattern} (hsizes : T.map Pattern.size = T'.map Pattern.size)
    (hbytes : T.flatMap packPattern = T'.flatMap packPattern) : T = T' := by
  induction T generalizing T' with
  | nil =>
    cases T' with
    | nil => rfl
    | cons q T' => simp at hsizes
  | cons p T ih =>
    cases T' with
    | nil => simp at hsizes
    | cons q T' =>
      obtain ⟨hsize, hsizes⟩ := List.cons.inj hsizes
      rw [List.flatMap_cons, List.flatMap_cons] at hbytes
      obtain ⟨hfirst, hrest⟩ := List.append_inj hbytes (by rw [packPattern_length, packPattern_length, hsize])
      rw [eq_of_packPattern_eq hsize hfirst, ih hsizes hrest]

/-- R30: the widths of a layout's elements, in order. -/
def layoutWidths (L : List Slot) : List Nat := L.flatMap fun sl => List.replicate sl.fc sl.kind.size

theorem layoutWidths_cons (sl : Slot) (L : List Slot) :
    layoutWidths (sl :: L) = List.replicate sl.fc sl.kind.size ++ layoutWidths L := List.flatMap_cons

theorem length_layoutWidths (L : List Slot) : (layoutWidths L).length = flatLen L := by
  induction L with
  | nil => rfl
  | cons sl L ih => rw [layoutWidths_cons, List.length_append, List.length_replicate, ih, flatLen_cons]

section
variable {sl : Slot} {v : Value} {L : List Slot} {V : List Value} {T : List Pattern}

/-- R104: the elements of a value that fits its slot. -/
theorem widths_of_fitsSlot (h : fitsSlot sl v = true) :
    (valueElems v).map Pattern.size = List.replicate sl.fc sl.kind.size := by
  obtain ⟨hshape, hwidth⟩ := Bool.and_eq_true_iff.mp h
  rw [← shapeFits_length hshape]
  exact List.map_eq_replicate_iff.mpr (by simpa [widthFits] using hwidth)

theorem widths_of_fitsLayout (h : fitsLayout L V = true) : (flatten V).map Pattern.size = layoutWidths L := by
  induction L generalizing V with
  | nil =>
    cases V with
    | nil => rfl
    | cons v V => simp at h
  | cons sl L ih =>
    cases V with
    | nil => simp at h
    | cons v V =>
      obtain ⟨hv, hV⟩ : fitsSlot sl v = true ∧ fitsLayout L V = true := by simpa using h
      rw [flatten_cons, List.map_append, widths_of_fitsSlot hv, ih hV, layoutWidths_cons]

/-- R120: the flat spreading of what fits has `FL` elements. -/
theorem flatten_length_of_fitsLayout (h : fitsLayout L V = true) : (flatten V).length = flatLen L := by
  rw [← length_layoutWidths, ← widths_of_fitsLayout h, List.length_map]

/-- R106: unpacking what was packed gives the flat spreading. -/
theorem unpackLayout_packed (h : fitsLayout L V = true) :
    unpackLayout L ((flatten V).flatMap packPattern) = .ok (flatten V) := by
  have hlen := packed_length_of_fitsLayout h
  obtain ⟨T, hT, hsizes, hbytes⟩ :=
    unpackFrom_reads (S := (flatten V).flatMap packPattern) (L := L) (off := 0) (by omega)
  rw [List.drop_zero, ← hlen, List.take_length] at hbytes
  obtain rfl := eq_of_flatMap_packPattern_eq (hsizes.trans (widths_of_fitsLayout h).symm) hbytes
  exact hT

/-- R106: as many elements as a slot has make a value that fits it. -/
theorem groupSlot_fits (h : T.map Pattern.size = List.replicate sl.fc sl.kind.size) :
    fitsSlot sl (groupSlot sl T) = true ∧ valueElems (groupSlot sl T) = T := by
  obtain ⟨kind, alen⟩ := sl
  have hlen := congrArg List.length h
  rw [List.length_map, List.length_replicate] at hlen
  rw [← hlen] at h
  have hwidth : ∀ p ∈ T, p.size = kind.size := List.map_eq_replicate_iff.mp h
  cases alen with
  | zero =>
    obtain ⟨p, rfl⟩ := List.length_eq_one_iff.mp hlen
    exact ⟨by simpa [groupSlot, fitsSlot, shapeFits, widthFits, valueElems] using hwidth, rfl⟩
  | succ n =>
    have hlen' : T.length = n + 1 := hlen
    exact ⟨by simpa [groupSlot, fitsSlot, shapeFits, widthFits, valueElems, hlen'] using hwidth, rfl⟩

/-- R106: a flat sequence of the layout's widths groups to values that fit, and of which it is the spreading. -/
theorem group_fits (h : T.map Pattern.size = layoutWidths L) :
    fitsLayout L (group L T) = true ∧ flatten (group L T) = T := by
  induction L generalizing T with
  | nil => exact ⟨rfl, (List.map_eq_nil_iff.mp h).symm⟩
  | cons sl L ih =>
    rw [layoutWidths_cons] at h
    have hfirst : (T.take sl.fc).map Pattern.size = List.replicate sl.fc sl.kind.size := by
      rw [List.map_take, h, List.take_left' List.length_replicate]
    have hrest : (T.drop sl.fc).map Pattern.size = layoutWidths L := by
      rw [List.map_drop, h, List.drop_left' List.length_replicate]
    obtain ⟨hslot, helems⟩ := groupSlot_fits hfirst
    obtain ⟨hslots, hflat⟩ := ih hrest
    rw [group, fitsLayout_cons, flatten_cons, hslot, hslots, helems, hflat, List.take_append_drop]
    exact ⟨rfl, rfl⟩

end

/-- R110: the three bytes of an id make it. -/
theorem ofNat_idBytes (id : MsgId) :
    BitVec.ofNat 24 ((id.extractLsb' 0 8).toNat + 256 * (id.extractLsb' 8 8).toNat +
      65536 * (id.extractLsb' 16 8).toNat) = id := by
  have hbytes : le 3 id.toNat = [id.extractLsb' 0 8, id.extractLsb' 8 8, id.extractLsb' 16 8] :=
    le_toNat_eq_map_extractLsb' 3 id
  rw [← unle_three, ← hbytes, ofNat_unle_le rfl]

/-- R108: the id that three bytes make has them as its bytes. -/
theorem idBytes_ofNat (b0 b1 b2 : Byte) :
    let id : MsgId := BitVec.ofNat 24 (b0.toNat + 256 * b1.toNat + 65536 * b2.toNat)
    [id.extractLsb' 0 8, id.extractLsb' 8 8, id.extractLsb' 16 8] = [b0, b1, b2] := by
  intro id
  have hbytes : le 3 id.toNat = [id.extractLsb' 0 8, id.extractLsb' 8 8, id.extractLsb' 16 8] :=
    le_toNat_eq_map_extractLsb' 3 id
  have hid : id = BitVec.ofNat 24 (unle [b0, b1, b2]) := by rw [unle_three]
  rw [← hbytes, hid]
  exact le_ofNat_unle rfl rfl

/-- R107, R109: an id that one byte holds is that byte, widened. -/
theorem setWidth_lowByte {id : MsgId} (h : id.toNat ≤ 255) : (id.extractLsb' 0 8).setWidth 24 = id := by
  refine BitVec.eq_of_toNat_eq ?_
  rw [BitVec.toNat_setWidth, BitVec.extractLsb'_toNat, Nat.shiftRight_zero]
  omega

theorem lowByte_setWidth (b : Byte) : (b.setWidth 24).toNat ≤ 255 ∧ (b.setWidth 24).extractLsb' 0 8 = b := by
  have hb := b.isLt
  have hnum : (b.setWidth 24).toNat = b.toNat := by
    rw [BitVec.toNat_setWidth]
    omega
  refine ⟨by omega, BitVec.eq_of_toNat_eq ?_⟩
  rw [BitVec.extractLsb'_toNat, hnum, Nat.shiftRight_zero]
  omega

/-- R111: in version 1 the flags are not on the wire. -/
theorem hdrUnpackV1_packed {h : Header} (hid : h.msgid.toNat ≤ 255) :
    hdrUnpackV1 [h.marker, h.plen, h.seq, h.sysid, h.compid, h.msgid.extractLsb' 0 8] =
      .ok { h with incompatFlags := 0, compatFlags := 0 } := by
  rw [hdrUnpackV1_ok, setWidth_lowByte hid]

theorem hdrUnpackV2_packed (h : Header) : hdrUnpackV2 (hdrPackV2 h) = .ok h := by
  rw [hdrPackV2, hdrUnpackV2_ok, ofNat_idBytes]

/-- R111: six bytes are the packing of the header they hold. -/
theorem hdrPackV1_unpacked {B : List Byte} (hB : B.length = 6) :
    ∃ h, hdrUnpackV1 B = .ok h ∧ hdrPackV1 h = .ok B := by
  match B, hB with
  | [b0, b1, b2, b3, b4, b5], _ =>
    obtain ⟨hid, hbyte⟩ := lowByte_setWidth b5
    refine ⟨_, hdrUnpackV1_ok b0 b1 b2 b3 b4 b5 [], ?_⟩
    rw [hdrPackV1_ok hid, hbyte]

/-- R111: ten bytes are the packing of the header they hold. -/
theorem hdrPackV2_unpacked {B : List Byte} (hB : B.length = 10) :
    ∃ h, hdrUnpackV2 B = .ok h ∧ hdrPackV2 h = B := by
  match B, hB with
  | [b0, b1, b2, b3, b4, b5, b6, b7, b8, b9], _ =>
    refine ⟨_, hdrUnpackV2_ok b0 b1 b2 b3 b4 b5 b6 b7 b8 b9 [], ?_⟩
    exact congrArg ([b0, b1, b2, b3, b4, b5, b6] ++ ·) (idBytes_ofNat b7 b8 b9)

/-- R119: in either case of its length test, padding appends the missing zeros. -/
theorem zpad_eq (P : List Byte) (n : Nat) : zpad P n = P ++ zeros (n - P.length) := fullPayload_eq .v2 P n

/-- R119: padding to the old length undoes truncation. -/
theorem zpad_truncZ (Q : List Byte) : zpad (truncZ Q) Q.length = Q := by
  rw [zpad_eq, truncZ_length, truncZ_append_zeros]

section
variable {L : List Slot} {V : List Value} {w : Nat} {sl : Slot} {v : Value}

/-- R120: in the flat spreading of what fits, the elements of slot w stand from its flat index on. -/
theorem flatten_drop_take (h : fitsLayout L V = true) (hsl : L[w]? = some sl) (hv : V[w]? = some v) :
    fitsSlot sl v = true ∧ ((flatten V).drop (flatLen (L.take w))).take sl.fc = valueElems v := by
  induction L generalizing V w with
  | nil => simp at hsl
  | cons sl' L ih =>
    cases V with
    | nil => simp at hv
    | cons v' V =>
      obtain ⟨hslot, hrest⟩ : fitsSlot sl' v' = true ∧ fitsLayout L V = true := by simpa using h
      obtain ⟨hshape, -⟩ := Bool.and_eq_true_iff.mp hslot
      have hlen := shapeFits_length hshape
      cases w with
      | zero =>
        obtain rfl : sl' = sl := by simpa using hsl
        obtain rfl : v' = v := by simpa using hv
        exact ⟨hslot, by rw [flatten_cons, List.take_zero, flatLen_nil, List.drop_zero, List.take_left' hlen]⟩
      | succ w =>
        rw [flatten_cons, List.take_succ_cons, flatLen_cons, ← List.drop_drop, List.drop_left' hlen]
        exact ih hrest (by simpa using hsl) (by simpa using hv)

end

section
variable {d : Descriptor} {V W : List Value}

/-- R120: gathering a slot from the flat spreading gives the value that was spread there. -/
theorem gatherSlot_flatten {w : Nat} {sl : Slot} {v : Value} (h : fitsLayout d.wire W = true)
    (hsl : d.wire[w]? = some sl) (hv : W[w]? = some v) : gatherSlot d (flatten W) w = v := by
  obtain ⟨hslot, helems⟩ := flatten_drop_take h hsl hv
  obtain ⟨hshape, -⟩ := Bool.and_eq_true_iff.mp hslot
  rw [← Descriptor.slotTip] at helems
  cases v with
  | scalar p =>
    have halen : sl.alen = 0 := by simpa [shapeFits] using hshape
    have hfc : sl.fc = 1 := if_pos halen
    have hfirst : (flatten W)[d.slotTip w]? = some p := by
      have hhead := congrArg (·[0]?) helems
      simpa [hfc, valueElems] using hhead
    have hgather := gatherSlot_scalar (flatten_length_of_fitsLayout h) hsl halen
    rw [hfirst] at hgather
    exact Option.some.inj hgather
  | array ps =>
    obtain ⟨halen, -⟩ : sl.alen ≠ 0 ∧ ps.length = sl.alen := by simpa [shapeFits] using hshape
    have hfc : sl.fc = sl.alen := if_neg halen
    rw [gatherSlot_array hsl halen, ← hfc, helems]
    rfl

/-- R120: reordering back what is in wire order, spread flat, gives the declared values. -/
theorem reorderW2d_flatten (hwf : d.WellFormed) (hlen : V.length = d.declared.length) (horder : InWireOrder d V W)
    (hfits : fitsLayout d.wire W = true) : reorderW2d d (flatten W) = .ok V := by
  rw [reorderW2d_ok (flatten_length_of_fitsLayout hfits)]
  obtain ⟨hwire, hcount, -, hlt, -⟩ := hwf
  obtain ⟨hlenW, hplaces⟩ := horder
  refine congrArg Except.ok (List.ext_getElem? fun i => ?_)
  rw [List.getElem?_map]
  cases hi : d.orderMap[i]? with
  | none =>
    have hout := List.getElem?_eq_none_iff.mp hi
    exact (List.getElem?_eq_none (by omega)).symm
  | some w =>
    have hw := hlt w (List.mem_of_getElem? hi)
    obtain ⟨v, hv⟩ : ∃ v, W[w]? = some v := ⟨_, List.getElem?_eq_getElem (by omega)⟩
    rw [← hplaces i w hi, hv, Option.map_some, gatherSlot_flatten hfits (List.getElem?_eq_getElem hw) hv]

end

end Machine

open Machine

/-- Settles O15: what was packed reads back, and what was read and grouped fits and packs to what was read. -/
theorem layoutPackAndUnpackAreInverse : Obligations.LayoutPackAndUnpackAreInverse := by
  constructor
  · intro s L V hfits
    exact ⟨_, answers_of_deliver_ok (exec_packLayout s L V) ((packLayout_eq L V).trans (if_pos hfits)),
      answers_of_deliver_ok (exec_unpackLayout s L _) (unpackLayout_packed hfits)⟩
  · intro s L S hlen
    obtain ⟨T, hT, hsizes, hbytes⟩ := unpackFrom_reads (S := S) (L := L) (off := 0) (by omega)
    obtain ⟨hfits, hflat⟩ := group_fits hsizes
    rw [List.drop_zero, ← hlen, List.take_length] at hbytes
    have hpack : packLayout L (group L T) = .ok S := by rw [packLayout_eq, if_pos hfits, hflat, hbytes]
    exact ⟨T, answers_of_deliver_ok (exec_unpackLayout s L S) hT, answers_of_deliver_ok (exec_packLayout s L _) hpack⟩

/-- Settles O18: version by version, from the header and from the bytes. -/
theorem headerPackAndUnpackAreInverse : Obligations.HeaderPackAndUnpackAreInverse := by
  refine ⟨?v1, ?v2, ?v1Bytes, ?v2Bytes⟩
  case v1 =>
    intro s h hid
    exact ⟨_, answers_of_deliver_ok (exec_hdrPackV1 s h) (hdrPackV1_ok hid),
      answers_of_deliver_ok (exec_hdrUnpackV1 s _) (hdrUnpackV1_packed hid)⟩
  case v2 =>
    intro s h
    exact ⟨_, exec_hdrPackV2_answers s h, answers_of_deliver_ok (exec_hdrUnpackV2 s _) (hdrUnpackV2_packed h)⟩
  case v1Bytes =>
    intro s B hB
    obtain ⟨h, hunpack, hpack⟩ := hdrPackV1_unpacked hB
    exact ⟨h, answers_of_deliver_ok (exec_hdrUnpackV1 s B) hunpack, answers_of_deliver_ok (exec_hdrPackV1 s h) hpack⟩
  case v2Bytes =>
    intro s B hB
    obtain ⟨h, hunpack, hpack⟩ := hdrPackV2_unpacked hB
    exact ⟨h, answers_of_deliver_ok (exec_hdrUnpackV2 s B) hunpack, hpack ▸ exec_hdrPackV2_answers s h⟩

/-- Settles O25: the truncated payload is the witness. -/
theorem zeroPadUndoesTruncation : Obligations.ZeroPadUndoesTruncation := by
  intro s Q
  have hzpad := exec_zpad_answers s (truncZ Q) Q.length
  rw [zpad_truncZ] at hzpad
  exact ⟨truncZ Q, exec_truncZ_answers s Q, hzpad⟩

/-- Settles O27: the answered list is in wire order, so gathering finds each declared value in its slot. -/
theorem reorderingsAreInverse : Obligations.ReorderingsAreInverse := by
  intro s d V W hwf hlen hd2w hfits
  have hanswer := answers_of_deliver_ok (exec_reorderD2w_of_wf hwf V s) (reorderD2w_ok hlen)
  obtain rfl : scatter d.orderMap V V = W := Response.values.inj (hanswer.unique hd2w)
  exact answers_of_deliver_ok (exec_reorderW2d_of_wf hwf _ s)
    (reorderW2d_flatten hwf hlen (inWireOrder_scatter hwf hlen) hfits)

end Sys2Proof
end

section
/-! PROOFS. Frames as FRAME.ENC builds them (43_framer_encode.md R115, R118): what stands where, and what FRAME.DEC
makes of them (44_framer_decode.md R124), unchanged or with one byte changed (90_conflicts.md C4). -/

namespace Sys2Proof

namespace Machine

/-- R115: `F` is the frame FRAME.ENC builds in session `s` for the values `V` of `d`, with `W` their wire order and `P`
the payload on the wire. -/
structure EncodedAs (s : State) (d : Descriptor) (V : List Value) (F : List Byte) (W : List Value) (P : List Byte) :
    Prop where
  wellFormed : d.WellFormed
  count : V.length = d.declared.length
  order : InWireOrder d V W
  fits : fitsLayout d.wire W = true
  payload : P = wirePayload s.cfg.version ((flatten W).flatMap packPattern)
  short : P.length ≤ 255
  idRange : s.cfg.version = .v1 → d.id.toNat ≤ 255
  frame : F = sentHeader s d P.length ++ P ++ le 2 (coveredChecksum (sentHeader s d P.length) P d.salt).toNat

section
variable {s : State} {d : Descriptor} {V : List Value}

/-- R115: FRAME.ENC answers a frame only where the encoding gives it. -/
theorem encodeFrame_of_answers_bytes {F : List Byte} (h : Answers (.frameEnc d V) s (.bytes F)) :
    d.WellFormed ∧ encodeFrame s.cfg s.seq s.sysid s.compid d V = .ok F := by
  obtain ⟨hwf, -⟩ := ite_refused_eq_next h
  have hexec := exec_frameEnc_of_wf hwf V s
  refine ⟨hwf, ?_⟩
  cases hencode : encodeFrame s.cfg s.seq s.sysid s.compid d V with
  | ok F' => rw [Response.bytes.inj ((answers_of_deliver_ok hexec hencode).unique h)]
  | error e => cases (answers_of_deliver_error hexec hencode).unique h

/-- R115: FRAME.ENC answers an error only where the encoding fails with it. -/
theorem encodeFrame_of_answers_error {e : Err} (h : Answers (.frameEnc d V) s (.error e)) :
    encodeFrame s.cfg s.seq s.sysid s.compid d V = .error e := by
  obtain ⟨hwf, -⟩ := ite_refused_eq_next h
  have hexec := exec_frameEnc_of_wf hwf V s
  cases hencode : encodeFrame s.cfg s.seq s.sysid s.compid d V with
  | ok F => cases (answers_of_deliver_ok hexec hencode).unique h
  | error e' => rw [Response.error.inj ((answers_of_deliver_error hexec hencode).unique h)]

/-- R115: the inversion of FRAME.ENC. -/
theorem encodedAs_of_answers {F : List Byte} (h : Answers (.frameEnc d V) s (.bytes F)) :
    ∃ W P, EncodedAs s d V F W P := by
  obtain ⟨hwf, hencode⟩ := encodeFrame_of_answers_bytes h
  obtain ⟨W, Q, H, hW, hQ, hshort, hH, hF⟩ := encodeFrame_ok hencode
  have hcount : V.length = d.declared.length := by
    by_contra hne
    cases (reorderD2w_error hne).symm.trans hW
  obtain rfl : scatter d.orderMap V V = W := Except.ok.inj ((reorderD2w_ok hcount).symm.trans hW)
  have hfits : fitsLayout d.wire (scatter d.orderMap V V) = true := by
    by_contra hne
    rw [packLayout_eq, if_neg hne] at hQ
    cases hQ
  rw [packLayout_eq, if_pos hfits] at hQ
  obtain rfl := Except.ok.inj hQ
  have hid : s.cfg.version = .v1 → d.id.toNat ≤ 255 := fun hv => by
    by_contra hrange
    cases (hdrPack_encHeader_error hv (not_le.mp hrange)).symm.trans hH
  obtain rfl := Except.ok.inj ((hdrPack_encHeader_ok _ hid).symm.trans hH)
  rw [frameChecksum_eq_coveredChecksum] at hF
  exact ⟨_, _, hwf, hcount, inWireOrder_scatter hwf hcount, hfits, rfl, hshort, hid, hF⟩

/-- R53, R54: the header on the wire has HS bytes and begins with the marker and the length byte. -/
theorem sentHeader_eq_cons (s : State) (d : Descriptor) (n : Nat) :
    ∃ rest, sentHeader s d n = s.cfg.marker :: BitVec.ofNat 8 n :: rest ∧ rest.length + 2 = s.cfg.hs := by
  cases hv : s.cfg.version with
  | v1 =>
    rw [sentHeader, hv, Config.marker_of_v1 hv, Config.hs_of_v1 hv]
    exact ⟨_, rfl, rfl⟩
  | v2 =>
    rw [sentHeader, hv, Config.marker_of_v2 hv, Config.hs_of_v2 hv]
    exact ⟨_, rfl, rfl⟩

theorem sentHeader_length (s : State) (d : Descriptor) (n : Nat) : (sentHeader s d n).length = s.cfg.hs := by
  obtain ⟨rest, hheader, hlen⟩ := sentHeader_eq_cons s d n
  rw [hheader, List.length_cons, List.length_cons, hlen]

/-- R57: the id in the header on the wire is the descriptor's. -/
theorem candidateId_sentHeader {n : Nat} (hid : s.cfg.version = .v1 → d.id.toNat ≤ 255) (rest : List Byte) :
    candidateId s.cfg.version (sentHeader s d n ++ rest) = d.id := by
  cases hv : s.cfg.version with
  | v1 =>
    rw [sentHeader, hv, candidateId]
    exact (BitVec.ofNat_toNat 24 _).trans (setWidth_lowByte (hid hv))
  | v2 =>
    rw [sentHeader, hv, candidateId]
    exact ofNat_idBytes d.id

end

namespace EncodedAs

variable {s : State} {d : Descriptor} {V W : List Value} {F P : List Byte} (h : EncodedAs s d V F W P)
include h

theorem frame_eq_header_append : ∃ tail, F = sentHeader s d P.length ++ tail ∧ tail.take P.length = P := by
  refine ⟨P ++ le 2 (coveredChecksum (sentHeader s d P.length) P d.salt).toNat, ?_, List.take_left⟩
  rw [h.frame, List.append_assoc]

theorem length_eq : F.length = s.cfg.hs + P.length + 2 := by
  rw [h.frame, List.length_append, List.length_append, sentHeader_length, le_length]

theorem getElem?_zero : F[0]? = some s.cfg.marker := by
  obtain ⟨rest, hheader, -⟩ := sentHeader_eq_cons s d P.length
  rw [h.frame, hheader]
  rfl

theorem getElem?_one : F[1]? = some (BitVec.ofNat 8 P.length) := by
  obtain ⟨rest, hheader, -⟩ := sentHeader_eq_cons s d P.length
  rw [h.frame, hheader]
  rfl

theorem byteAt_zero : byteAt F 0 = s.cfg.marker.toNat := by
  rw [byteAt, List.getD_eq_getElem?_getD, h.getElem?_zero, Option.getD_some]

theorem byteAt_one : byteAt F 1 = P.length := by
  rw [byteAt, List.getD_eq_getElem?_getD, h.getElem?_one, Option.getD_some, toNat_lengthByte h.short]

theorem take_hs : F.take s.cfg.hs = sentHeader s d P.length := by
  obtain ⟨tail, hF, -⟩ := h.frame_eq_header_append
  rw [hF, List.take_left' (sentHeader_length s d P.length)]

theorem drop_hs_take : (F.drop s.cfg.hs).take P.length = P := by
  obtain ⟨tail, hF, htake⟩ := h.frame_eq_header_append
  rw [hF, List.drop_left' (sentHeader_length s d P.length), htake]

theorem candidateId_eq : candidateId s.cfg.version F = d.id := by
  obtain ⟨tail, hF, -⟩ := h.frame_eq_header_append
  rw [hF, candidateId_sentHeader h.idRange]

theorem candidatePayload_eq : candidatePayload s.cfg.version F = P := by
  rw [candidatePayload, h.byteAt_one]
  exact h.drop_hs_take

/-- R118: the trailer is the checksum of the frame's own header and payload. -/
theorem candidateCksum_eq : candidateCksum F = coveredChecksum (F.take s.cfg.hs) P d.salt := by
  have hlen := h.length_eq
  have htrailer : F.drop (F.length - 2) = le 2 (coveredChecksum (F.take s.cfg.hs) P d.salt).toNat := by
    rw [h.take_hs, show F.length - 2 = s.cfg.hs + P.length by omega, h.frame]
    exact List.drop_left' (by rw [List.length_append, sentHeader_length])
  rw [← trailer_eq_candidateCksum (by omega), trailer, htrailer, ofNat_unle_le rfl]

/-- R119: what step 5 of R122 restores is the payload before truncation. -/
theorem fullPayload_eq_packed :
    fullPayload s.cfg.version P d.wireLen = (flatten W).flatMap packPattern := by
  have hlen : d.wireLen = ((flatten W).flatMap packPattern).length := (packed_length_of_fitsLayout h.fits).symm
  rw [h.payload, hlen]
  cases s.cfg.version with
  | v1 => rfl
  | v2 => exact zpad_truncZ _

/-- R122 steps 7 to 9 give back the values. -/
theorem decodeValues_eq (id : MsgId) :
    decodeValues d id (fullPayload s.cfg.version P d.wireLen) = .ok { id := id, values := V } := by
  simp only [decodeValues, h.fullPayload_eq_packed, unpackLayout_packed h.fits,
    reorderW2d_flatten h.wellFormed h.count h.order h.fits]

end EncodedAs

/-- R7: sessions of one version have one header size. -/
theorem hs_eq_of_version_eq {c c' : Config} (h : c.version = c'.version) : c.hs = c'.hs :=
  congrArg Version.headerSize h

section
variable {C : List Byte} {i j : Nat} {b : Byte}

theorem byteAt_set_of_ne (h : i ≠ j) : byteAt (C.set i b) j = byteAt C j := by
  rw [byteAt, byteAt, List.getD_eq_getElem?_getD, List.getD_eq_getElem?_getD, List.getElem?_set_ne h]

theorem getD_set_self (h : i < C.length) : (C.set i b).getD i 0 = b := by
  rw [List.getD_eq_getElem?_getD, List.getElem?_set_self h, Option.getD_some]

/-- C4: the marker and the length byte are among the early ones. -/
theorem ne_of_isEarlyByte_eq_false {v : Version} (h : isEarlyByte v i = false) : i ≠ 0 ∧ i ≠ 1 := by
  constructor
  · rintro rfl
    cases v <;> cases h
  · rintro rfl
    cases v <;> cases h

/-- C4: a byte outside the id leaves it. -/
theorem candidateId_set {v : Version} (h : isEarlyByte v i = false) : candidateId v (C.set i b) = candidateId v C := by
  cases v with
  | v1 =>
    obtain ⟨⟨-, -⟩, h5⟩ : (i ≠ 0 ∧ i ≠ 1) ∧ i ≠ 5 := by simpa [isEarlyByte] using h
    rw [candidateId, candidateId, byteAt_set_of_ne h5]
  | v2 =>
    obtain ⟨⟨⟨⟨-, -⟩, h7⟩, h8⟩, h9⟩ : (((i ≠ 0 ∧ i ≠ 1) ∧ i ≠ 7) ∧ i ≠ 8) ∧ i ≠ 9 := by simpa [isEarlyByte] using h
    rw [candidateId, candidateId, byteAt_set_of_ne h7, byteAt_set_of_ne h8, byteAt_set_of_ne h9]

/-- C4: a byte before the trailer leaves the trailer. -/
theorem candidateCksum_set (h : i + 2 < C.length) : candidateCksum (C.set i b) = candidateCksum C := by
  rw [candidateCksum, candidateCksum, List.length_set, byteAt_set_of_ne (by omega), byteAt_set_of_ne (by omega)]

/-- R69: the covered bytes of a candidate of true length: all but the marker and the trailer. -/
theorem coveredChecksum_candidate {v : Version} {salt : Byte} (hlen : C.length = v.headerSize + byteAt C 1 + 2) :
    coveredChecksum (C.take v.headerSize) (candidatePayload v C) salt =
      crcStep (crcFold seed ((C.take (C.length - 2)).drop 1)) salt := by
  have hpos : 1 ≤ (C.take v.headerSize).length := by
    rw [List.length_take]
    obtain ⟨-, hsize⟩ | ⟨-, hsize⟩ := v.headerSize_cases <;> omega
  have hcovered : (C.take (C.length - 2)).drop 1 = (C.take v.headerSize).drop 1 ++ candidatePayload v C := by
    rw [show C.length - 2 = v.headerSize + byteAt C 1 by omega, List.take_add, List.drop_append_of_le_length hpos]
    rfl
  rw [hcovered, coveredChecksum, crcFold, seed_eq]

/-- R72: setting one byte to another value changes the fold. -/
theorem crcFold_set_ne {S : List Byte} (state : Word16) (hi : i < S.length) (hb : S[i]? ≠ some b) :
    crcFold state (S.set i b) ≠ crcFold state S := by
  have hne : b ≠ S[i] := fun heq => hb (by rw [List.getElem?_eq_getElem hi, heq])
  have hsame : S = S.take i ++ S[i] :: S.drop (i + 1) := by
    rw [← List.drop_eq_getElem_cons hi, List.take_append_drop]
  rw [List.set_eq_take_append_cons_drop, if_pos hi]
  conv_rhs => rw [hsame]
  exact crcFold_ne_of_byte_ne state _ _ hne

/-- C4: one changed byte between marker and trailer, other than the length byte, changes the checksum. -/
theorem coveredChecksum_set_ne {v : Version} {salt : Byte} (hlen : C.length = v.headerSize + byteAt C 1 + 2)
    (h0 : i ≠ 0) (h1 : i ≠ 1) (hi : i + 2 < C.length) (hb : C[i]? ≠ some b) :
    coveredChecksum ((C.set i b).take v.headerSize) (candidatePayload v (C.set i b)) salt ≠
      coveredChecksum (C.take v.headerSize) (candidatePayload v C) salt := by
  obtain ⟨j, rfl⟩ := Nat.exists_eq_add_one_of_ne_zero h0
  have hcovered : ((C.set (j + 1) b).take (C.length - 2)).drop 1 = ((C.take (C.length - 2)).drop 1).set j b := by
    rw [List.take_set, List.drop_set, if_neg (by omega), Nat.add_sub_cancel]
  have hj : j < ((C.take (C.length - 2)).drop 1).length := by
    rw [List.length_drop, List.length_take]
    omega
  have hbyte : ((C.take (C.length - 2)).drop 1)[j]? ≠ some b := by
    rwa [List.getElem?_drop, List.getElem?_take_of_lt (by omega), Nat.add_comm]
  rw [coveredChecksum_candidate (C := C.set (j + 1) b) (by rw [List.length_set, byteAt_set_of_ne h1, hlen]),
    coveredChecksum_candidate hlen, List.length_set, hcovered]
  exact fun heq => crcFold_set_ne seed hj hbyte (crcStep_state_injective salt heq)

end

end Machine

open Machine

/-- Settles O23: the parts of the frame, read back at their places. -/
theorem encodedFramesHaveTheWireShape : Obligations.EncodedFramesHaveTheWireShape := by
  intro s d V F henc n
  obtain ⟨W, P, h⟩ := encodedAs_of_answers henc
  have hlen := h.length_eq
  have hshort := h.short
  have hn : n = P.length := by omega
  rw [hn, h.drop_hs_take]
  refine ⟨by omega, by omega, h.getElem?_zero, h.getElem?_one, h.candidateCksum_eq, fun hv hlong hzero => ?_⟩
  have hP : P = truncZ ((flatten W).flatMap packPattern) := by rw [h.payload, hv, wirePayload]
  refine truncZ_getLast? (P := (flatten W).flatMap packPattern) (hP ▸ hlong) ?_
  rw [← hP, List.getLast?_eq_getElem?]
  have hplace := congrArg (·[P.length - 1]?) h.drop_hs_take
  simp only [List.getElem?_take_of_lt (show P.length - 1 < P.length by omega), List.getElem?_drop] at hplace
  rw [← hplace, show s.cfg.hs + (P.length - 1) = F.length - 3 by omega, hzero]

/-- Settles O30: the frame passes every check of the receiver, and the steps after them undo those of the sender. -/
theorem encodedFramesDecodeToTheirValues : Obligations.EncodedFramesDecodeToTheirValues := by
  intro sender receiver d V F hwf hlookup hversion hmarker henc
  obtain ⟨W, P, h⟩ := encodedAs_of_answers henc
  have hhs := hs_eq_of_version_eq hversion
  have hlen := h.length_eq
  have hid : candidateId receiver.cfg.version F = d.id := hversion ▸ h.candidateId_eq
  have hdecode : decodeFrame receiver.cfg F = .ok { id := d.id, values := V } := by
    rw [decodeFrame_registered (by omega) (hmarker ▸ h.byteAt_zero) (by rw [h.byteAt_one]; omega) (hid ▸ hlookup), hid,
      hversion, hhs, h.candidatePayload_eq, h.decodeValues_eq]
    exact if_neg (not_not.mpr h.candidateCksum_eq.symm)
  exact answers_of_deliver_ok (exec_frameDec_of_wf hwf F) hdecode

/-- Settles O31: the changed frame passes the checks before the checksum, and the checksum is another. -/
theorem oneCorruptedByteIsAChecksumMismatch : Obligations.OneCorruptedByteIsAChecksumMismatch := by
  intro sender receiver d V F i b hwf hlookup hversion hmarker henc hi hearly hb
  obtain ⟨W, P, h⟩ := encodedAs_of_answers henc
  have hhs := hs_eq_of_version_eq hversion
  have hlen := h.length_eq
  obtain ⟨h0, h1⟩ := ne_of_isEarlyByte_eq_false hearly
  have hbyte0 : byteAt (F.set i b) 0 = receiver.cfg.marker.toNat := by
    rw [byteAt_set_of_ne h0, h.byteAt_zero, hmarker]
  have hbyte1 : byteAt (F.set i b) 1 = P.length := by rw [byteAt_set_of_ne h1, h.byteAt_one]
  have hid : candidateId receiver.cfg.version (F.set i b) = d.id := by
    rw [candidateId_set hearly, hversion, h.candidateId_eq]
  have hcksum : candidateCksum (F.set i b) = coveredChecksum (F.take receiver.cfg.hs) P d.salt := by
    rw [candidateCksum_set hi, h.candidateCksum_eq, hhs]
  have hne : coveredChecksum ((F.set i b).take receiver.cfg.hs) (candidatePayload receiver.cfg.version (F.set i b))
      d.salt ≠ candidateCksum (F.set i b) := by
    have hchanged := coveredChecksum_set_ne (v := receiver.cfg.version) (salt := d.salt)
      (by rw [h.byteAt_one, hlen, ← hhs]; rfl) h0 h1 hi hb
    rw [hcksum, ← h.candidatePayload_eq, ← hversion]
    exact hchanged
  refine ⟨_, _, hne, answers_of_deliver_error (exec_frameDec_of_wf hwf _) ?_⟩
  rw [decodeFrame_registered (by rw [List.length_set]; omega) hbyte0 (by rw [hbyte1, List.length_set]; omega)
    (hid ▸ hlookup)]
  exact if_pos hne

/-- Settles O32: the marker is checked first, then the length byte. -/
theorem corruptedMarkerOrLengthIsReportedFirst : Obligations.CorruptedMarkerOrLengthIsReportedFirst := by
  intro sender receiver d V F b hwf hversion hmarker henc
  obtain ⟨W, P, h⟩ := encodedAs_of_answers henc
  have hhs := hs_eq_of_version_eq hversion
  have hlen := h.length_eq
  have hshort := h.short
  have hlength (i : Nat) : receiver.cfg.hs ≤ (F.set i b).length := by
    rw [List.length_set]
    omega
  refine ⟨fun hb => ?marker, fun hb => ?length⟩
  case marker =>
    have hself : (F.set 0 b).getD 0 0 = b := getD_set_self (by omega)
    have hne : byteAt (F.set 0 b) 0 ≠ receiver.cfg.marker.toNat := fun heq => by
      rw [byteAt, hself, hmarker] at heq
      exact hb (by rw [h.getElem?_zero, BitVec.eq_of_toNat_eq heq])
    have hdecode := decodeFrame_badMarker (hlength 0) hne
    rw [hself] at hdecode
    exact answers_of_deliver_error (exec_frameDec_of_wf hwf _) hdecode
  case length =>
    have hself : (F.set 1 b).getD 1 0 = b := getD_set_self (by omega)
    have hbyte0 : byteAt (F.set 1 b) 0 = receiver.cfg.marker.toNat := by
      rw [byteAt_set_of_ne (by decide), h.byteAt_zero, hmarker]
    have hne : (byteAt (F.set 1 b) 1 : Int) ≠ ((F.set 1 b).length : Int) - receiver.cfg.hs - 2 := fun heq => by
      rw [byteAt, hself, List.length_set] at heq
      refine hb ?_
      rw [h.getElem?_one, ofNat_eq_of_toNat_eq (v := b) (by omega)]
    have hdecode := decodeFrame_lengthMismatch (hlength 1) hbyte0 hne
    rw [hself, List.length_set] at hdecode
    exact answers_of_deliver_error (exec_frameDec_of_wf hwf _) hdecode

end Sys2Proof
end

section
/-! PROOFS. The pseudo-operations of 30_encoding.md R66: their expansions run operation by operation. -/

namespace Sys2Proof

namespace Machine

section
variable {s : State} {i : Instr} {r : Response}

/-- R47: an operation that only answers leaves the rest of the sequence to run with its response in place. -/
theorem runSeq_cons_of_answers (h : Answers i s r) (rest : List Instr) :
    runSeq (i :: rest) s = runSeq rest (s.respond r) :=
  runSeq_cons_of_next h rest

/-- R47: a sequence's last operation, where it only answers. -/
theorem runSeq_singleton_of_answers (h : Answers i s r) : runSeq [i] s = .next (s.respond r) :=
  (runSeq_singleton i s).trans h

end

/-- R66: `CRC.FRAME` leaves the frame's checksum in CRC and in the response, whatever runs after it. -/
theorem runSeq_expandCrcFrame (s : State) (H P : List Byte) (salt : Byte) (rest : List Instr) :
    runSeq (expandCrcFrame H P salt ++ rest) s =
      runSeq rest ((s.setCrc (coveredChecksum H P salt)).respond (.crc (coveredChecksum H P salt))) := by
  have hread := runSeq_cons_of_answers (exec_crcRead_answers ((s.setCrc (coveredChecksum H P salt)).respond .done)) rest
  simp only [State.respond_crc, State.setCrc_crc, State.respond_respond] at hread
  rw [← hread, expandCrcFrame]
  simp only [List.cons_append, List.nil_append]
  rw [runSeq_cons_of_next (exec_crcInit_next s), runSeq_cons_of_next (exec_crcBuf_next _ _),
    runSeq_cons_of_next (exec_crcBuf_next _ _), runSeq_cons_of_next (exec_crcSalt_next _ _)]
  simp only [State.respond_crc, State.setCrc_crc, State.setCrc_respond, State.setCrc_setCrc, State.respond_respond,
    ← frameChecksum_eq_coveredChecksum]
  rfl

section
variable {c : Config} {d : Descriptor} {h : Header} {C P : List Byte} {m : Message} {id : MsgId}

/-- R122 steps 5 and 6: decoding the body succeeds only over the right checksum. -/
theorem decodeBody_ok (hbody : decodeBody c d h C = .ok m) :
    let P := slice C c.hs (c.hs + h.plen.toNat)
    frameChecksum (C.take c.hs) P d.salt = trailer C ∧
      decodeValues d h.msgid (fullPayload c.version P d.wireLen) = .ok m := by
  simp only [decodeBody] at hbody
  split at hbody
  · cases hbody
  · exact ⟨not_not.mp ‹_›, hbody⟩

/-- R122 steps 7 to 9: a decoded Message has the unpacked and reordered values. -/
theorem decodeValues_eq_ok (hvalues : decodeValues d id P = .ok m) :
    ∃ T, unpackLayout d.wire P = .ok T ∧ reorderW2d d T = .ok m.values := by
  have hlen : d.wireLen ≤ P.length := by
    by_contra hshort
    rw [decodeValues_truncated id (not_le.mp hshort)] at hvalues
    cases hvalues
  obtain ⟨T, V, hT, hV, hok⟩ := decodeValues_ok id hlen
  obtain rfl := Except.ok.inj (hok.symm.trans hvalues)
  exact ⟨T, hT, hV⟩

end

section
variable {s : State} {C P : List Byte} {h : Header} {d : Descriptor} {T : List Pattern}

/-- R66: where the checks between the leaves pass, `DECODE.STEPS` is all of its leaves; `P` is the payload as
received. -/
theorem expandDecode_eq (hheader : hdrUnpack s.cfg.version C = .ok h) (hmarker : h.marker = s.cfg.marker)
    (hplen : (h.plen.toNat : Int) = (C.length : Int) - s.cfg.hs - 2) (hlookup : s.cfg.lookup h.msgid = some d)
    (hP : slice C s.cfg.hs (s.cfg.hs + h.plen.toNat) = P)
    (hsum : frameChecksum (C.take s.cfg.hs) P d.salt = trailer C)
    (hT : unpackLayout d.wire (fullPayload s.cfg.version P d.wireLen) = .ok T) :
    expandDecode C s =
      expandHeader s.cfg.version C ::
        (expandCrcFrame (C.take s.cfg.hs) P d.salt ++
          (expandPad s.cfg.version P d.wireLen ++
            [.unpackLayout d.wire (fullPayload s.cfg.version P d.wireLen), .reorderW2d d T])) := by
  simp only [expandDecode, hheader, hmarker, hplen, and_self, if_true, hlookup, expandBody, hP, hsum, expandUnpack, hT]

/-- R66: the header's leaf answers the header. -/
theorem expandHeader_answers (t : State) {v : Version} (hheader : hdrUnpack v C = .ok h) :
    Answers (expandHeader v C) t (.header h) := by
  cases v with
  | v1 => exact answers_of_deliver_ok (exec_hdrUnpackV1 t C) hheader
  | v2 => exact answers_of_deliver_ok (exec_hdrUnpackV2 t C) hheader

/-- R66: the padding's leaf, in version 2, only answers. -/
theorem runSeq_expandPad (t : State) (v : Version) (P : List Byte) (n : Nat) (rest : List Instr) :
    ∃ u, runSeq (expandPad v P n ++ rest) t = runSeq rest u ∧ ∀ r, u.respond r = t.respond r := by
  cases v with
  | v1 => exact ⟨t, rfl, fun _ => rfl⟩
  | v2 => exact ⟨_, runSeq_cons_of_answers (exec_zpad_answers t P n) rest, fun r => t.respond_respond _ r⟩

end

end Machine

open Machine

/-- Settles O58: the four expansions, run. -/
theorem crcFrameAndSendExpand : Obligations.CrcFrameAndSendExpand := by
  refine ⟨?frame, ?update, ?sent, ?refused⟩
  case frame =>
    intro s H P salt c
    have hrun := runSeq_expandCrcFrame s H P salt []
    rw [List.append_nil] at hrun
    exact hrun
  case update => exact fun s S => runSeq_singleton _ s
  case sent =>
    intro s d V F henc
    obtain ⟨-, hencode⟩ := encodeFrame_of_answers_bytes henc
    have hexpand : expand (.send d V) s = [.frameEnc d V, .sessionSent F.length] := by
      simp only [expand, expandSend, hencode]
    rw [runPseudo, hexpand, runSeq_cons_of_answers henc, runSeq_singleton, exec_sessionSent_next]
    rfl
  case refused =>
    intro s d V e henc
    have hexpand : expand (.send d V) s = [.frameEnc d V] := by
      simp only [expand, expandSend, encodeFrame_of_answers_error henc]
    rw [runPseudo, hexpand, runSeq_singleton_of_answers henc]
    rfl

/-- Settles O59: what FRAME.DEC's success says of each step is what its leaf answers. -/
theorem leafStepsDecodeAsFrameDec : Obligations.LeafStepsDecodeAsFrameDec := by
  intro s C m hdec
  have hdecode := decodeFrame_of_answers_message hdec
  obtain ⟨⟨hregistry, -⟩, -⟩ := ite_refused_eq_next hdec
  obtain ⟨h, d, hheader, hmarker, hplen, hlookup, hbody⟩ := decodeFrame_ok hdecode
  obtain ⟨hsum, hvalues⟩ := decodeBody_ok hbody
  obtain ⟨T, hT, hV⟩ := decodeValues_eq_ok hvalues
  obtain ⟨hmem, -⟩ := Config.lookup_some hlookup
  have hcksum := hsum.trans (trailer_eq_candidateCksum (C := C) (by omega))
  rw [frameChecksum_eq_coveredChecksum] at hcksum
  rw [runPseudo, expand, expandDecode_eq hheader hmarker hplen hlookup rfl hsum hT,
    runSeq_cons_of_answers (expandHeader_answers s hheader), runSeq_expandCrcFrame, hcksum]
  obtain ⟨u, hpad, hu⟩ := runSeq_expandPad _ s.cfg.version _ d.wireLen _
  rw [hpad, runSeq_cons_of_answers (answers_of_deliver_ok (exec_unpackLayout u _ _) hT),
    runSeq_singleton_of_answers (answers_of_deliver_ok (exec_reorderW2d_of_wf (hregistry d hmem) T _) hV),
    State.respond_respond, hu]
  rfl

end Sys2Proof
end
